-- ==== Sys2Proof/Word.lean ====
section
/-! DEFINITION. The word types of CORE: the 32-bit command word and counters, the 16-bit data and read words, the 8-bit samples
(spec/00_scope.md R7, R11), and the number of a channel (R9: four channels). -/

namespace Sys2Proof

/-- A 32-bit word: a command (30_encoding.md R90), GTICK, ELAPSED, RNG. -/
abbrev Word := BitVec 32

/-- A 16-bit word: command data, `rdata`, an entry of a readback space (20_memory.md R75). -/
abbrev Half := BitVec 16

/-- An 8-bit sample or level, `0..255` (00_scope.md R9). -/
abbrev Byte := BitVec 8

/-- A channel number, `0..N_CH-1` with `N_CH = 4` (00_scope.md R9). -/
abbrev Chan := Fin 4

end Sys2Proof
end

