-- ==== Sys2Proof/Config.lean ====
section
/-! DEFINITION. What the implementer of CORE fixes: the parameters of spec/00_scope.md R10 as one structure that the operations
take as an argument, the constraints a legal choice meets (42_tick.md R199, R226; 43_waveform.md R250), and the free values
of table entries that no rule addresses (notes/assumptions/4, 5, 6). The spec's default values are in Machine/Params.lean. -/

namespace Sys2Proof

/-- The output kind of a channel (10_state.md R38): 0 = DIGITAL, 1 = ANALOG. -/
inductive Kind where
  | digital
  | analog
  deriving DecidableEq, Repr, Inhabited

/-- A divider ratio `num/den` (42_tick.md R191). -/
structure Ratio where
  num : Nat
  den : Nat
  deriving DecidableEq, Repr, Inhabited

/-- The ratio is below 1 (`num < den`, 42_tick.md R200). -/
def Ratio.subUnity (r : Ratio) : Bool := decide (r.num < r.den)

/-- The parameters of 00_scope.md R10. `IDX_X1` is the index of the ratio 1/1 in `DIV_TABLE`. The type admits parameters that break
the spec's constraints too; what the model does with those is its own choice (notes/assumptions/18). -/
structure Params where
  divTable   : List Ratio
  idxX1      : Nat
  swingTable : List Nat
  chKind     : Chan → Kind
  rngStep    : Word → Word
  sineWarp   : Nat → Nat → Nat
  srStep     : Nat
  srK        : Nat

/-- FREE VALUE (notes/assumptions/4): the ratio at an index `DIV_TABLE` does not have. No register ever holds such an index
(10_state.md R39). -/
opaque Config.unlistedRatio : Nat → Ratio

/-- FREE VALUE (notes/assumptions/4): the offset at an index `SWING_TABLE` does not have (10_state.md R39). -/
opaque Config.unlistedSwing : Nat → Nat

/-- FREE VALUE (notes/assumptions/5): the entry `EUC_ROM[n][k]` for a pair with `k = 0`, `k > n` or `n > 64`, which does not exist
and which no rule addresses (40_euclid.md R121). -/
opaque Config.missingRomEntry : Nat → Nat → List Bool

/-- FREE VALUE (notes/assumptions/6): a shape table read past its entry 256, which no rule does (43_waveform.md R243, R244). -/
opaque Config.offTableSample : Nat → Nat

/-- `N_DIV`. -/
def Params.nDiv (p : Params) : Nat := p.divTable.length

/-- `SWING_N`. -/
def Params.swingN (p : Params) : Nat := p.swingTable.length

/-- `DIV_TABLE[i]`. -/
def Params.ratio (p : Params) (i : Nat) : Ratio := p.divTable.getD i (Config.unlistedRatio i)

/-- `SWING_TABLE[i]`. -/
def Params.swing (p : Params) (i : Nat) : Nat := p.swingTable.getD i (Config.unlistedSwing i)

/-- What 42_tick.md R199 (a) asks of `DIV_TABLE` and `IDX_X1`: at most 16 entries, positive terms, strictly ascending, exactly one
entry equal to 1/1 and that one at `IDX_X1`, every entry below 1/1 of the form `1/den` with `den <= 128`, every entry from
`IDX_X1` on at least 1. -/
def Params.DivTableLegal (p : Params) : Prop :=
  1 ≤ p.nDiv ∧ p.nDiv ≤ 16 ∧
  (∀ r ∈ p.divTable, 1 ≤ r.num ∧ 1 ≤ r.den) ∧
  p.divTable.Pairwise (fun a b => a.num * b.den < b.num * a.den) ∧
  p.idxX1 < p.nDiv ∧
  (∀ i, i < p.nDiv → ((p.ratio i).num = (p.ratio i).den ↔ i = p.idxX1)) ∧
  (∀ r ∈ p.divTable, r.num < r.den → r.num = 1 ∧ r.den ≤ 128) ∧
  (∀ i, p.idxX1 ≤ i → i < p.nDiv → (p.ratio i).den ≤ (p.ratio i).num)

/-- What 42_tick.md R199 (b) asks of `SWING_TABLE`. -/
def Params.SwingTableLegal (p : Params) : Prop :=
  1 ≤ p.swingN ∧ p.swingN ≤ 8 ∧ p.swing 0 = 0 ∧ ∀ x ∈ p.swingTable, x ≤ 96

/-- What 10_state.md R35 and 42_tick.md R226 ask of `RNG_STEP`: only 0 may map to 0. -/
def Params.RngStepLegal (p : Params) : Prop := ∀ x : Word, x ≠ 0 → p.rngStep x ≠ 0

/-- The properties (a) to (d) that 43_waveform.md R250 asks of `SINE_WARP`, and its range `0..255`. -/
def Params.SineWarpLegal (p : Params) : Prop :=
  (∀ s, s ≤ 255 → p.sineWarp 50 s = s) ∧
  (∀ d, 1 ≤ d → d ≤ 99 → p.sineWarp d 0 = 0 ∧ p.sineWarp d 255 = 255) ∧
  (∀ d s t, 1 ≤ d → d ≤ 99 → s ≤ t → t ≤ 255 → p.sineWarp d s ≤ p.sineWarp d t) ∧
  (∀ d s, 1 ≤ d → d ≤ 99 → s ≤ 255 → p.sineWarp d s + p.sineWarp d (255 - s) = 255)

/-- The parameters meet every constraint the spec states for them (00_scope.md R10). -/
structure Params.Legal (p : Params) : Prop where
  div   : p.DivTableLegal
  swing : p.SwingTableLegal
  rng   : p.RngStepLegal
  warp  : p.SineWarpLegal

end Sys2Proof
end

