-- ==== Sys2Proof/Machine/Params.lean ====
section
/-! DEFINITION. The spec's default values of the parameters of spec/00_scope.md R10 (notes/assumptions/2): the machine `exec` and
`step` are built with them. Every operation that reads a parameter takes `Params` as an argument, and so do `execWith`,
`stepWith` and `coreWith` of Machine/Build.lean, the machine built with any parameters. -/

namespace Sys2Proof.Machine

/-- The default `DIV_TABLE` (42_tick.md R191), /128 to x32. -/
def divTableDefault : List Ratio :=
  [⟨1, 128⟩, ⟨1, 64⟩, ⟨1, 32⟩, ⟨1, 16⟩, ⟨1, 8⟩, ⟨1, 4⟩, ⟨1, 3⟩, ⟨1, 2⟩] ++
  [⟨1, 1⟩, ⟨2, 1⟩, ⟨3, 1⟩, ⟨4, 1⟩, ⟨8, 1⟩, ⟨16, 1⟩, ⟨32, 1⟩]

/-- The default `SWING_TABLE` (42_tick.md R196), in 96ths of a quarter note. -/
def swingTableDefault : List Nat := [0, 2, 4, 6, 8, 10, 12]

/-- The default `CH_KIND` (00_scope.md R10): channels 0 and 1 DIGITAL, 2 and 3 ANALOG. -/
def chKindDefault : Chan → Kind
  | 0 => .digital
  | 1 => .digital
  | 2 => .analog
  | 3 => .analog

/-- The default `RNG_STEP`, xorshift32 (42_tick.md R226). -/
def xorshift32 (x : Word) : Word :=
  let t := x ^^^ (x <<< 13)
  let t := t ^^^ (t >>> 17)
  t ^^^ (t <<< 5)

/-- `m <= 127.5 * (a / 255) ^ (d / 50)`, cleared of the fraction and the root (43_waveform.md R250, notes/assumptions/3):
the 50th power of `2 m <= 255 * (a / 255) ^ (d / 50)`. -/
def warpReaches (d a m : Nat) : Bool := decide ((2 * m) ^ 50 * 255 ^ d ≤ 255 ^ 50 * a ^ d)

/-- `m = 127.5 * (a / 255) ^ (d / 50)` exactly. -/
def warpExact (d a m : Nat) : Bool := (2 * m) ^ 50 * 255 ^ d == 255 ^ 50 * a ^ d

/-- The greatest `m` in `0..bound` with `m <= 127.5 * (a / 255) ^ (d / 50)`. -/
def warpFloor (d a : Nat) : Nat → Nat
  | 0 => 0
  | m + 1 => if warpReaches d a (m + 1) then m + 1 else warpFloor d a m

/-- The least `m` with `127.5 * (a / 255) ^ (d / 50) <= m`. -/
def warpCeil (d a : Nat) : Nat :=
  if warpExact d a (warpFloor d a 127) then warpFloor d a 127 else warpFloor d a 127 + 1

/-- The reference `SINE_WARP(d, s)` of 43_waveform.md R250, `floor(127.5 * (w + 1) + 1/2) = floor(128 + 127.5 * w)` with
`w = sign(y) * |y| ^ (d / 50)` and `y = (2 s - 255) / 255`, computed exactly in integers (notes/assumptions/3): for `y > 0` it
is `128 + floor(127.5 * |w|)`, for `y < 0` it is `128 - ceil(127.5 * |w|)`; `y = 0` never happens, `2 s - 255` is odd. -/
def sineWarpDefault (d s : Nat) : Nat :=
  if 128 ≤ s then 128 + warpFloor d (2 * s - 255) 127 else 128 - warpCeil d (255 - 2 * s)

/-- The default parameters of 00_scope.md R10. -/
def defaultParams : Params where
  divTable   := divTableDefault
  idxX1      := 8
  swingTable := swingTableDefault
  chKind     := chKindDefault
  rngStep    := xorshift32
  sineWarp   := sineWarpDefault
  srStep     := 16
  srK        := 2

end Sys2Proof.Machine
end

