-- ==== Sys2Proof/Machine/State.lean ====
section
/-! DEFINITION. The state of CORE as plain data: every register of spec/10_state.md, the `rdata` port, and the port values the host
will present; why a step can stop; the state right after reset (70_reset_and_hazards.md R361). -/

namespace Sys2Proof.Machine

/-- The ten waveform shapes that `WAVE` can hold (43_waveform.md R240); the codes 10..15 are never held. -/
inductive Shape where
  | gate
  | triangle
  | sine
  | parabolic
  | sawtooth
  | expEnv
  | logEnv
  | random
  | smoothRandom
  | sampleHold
  deriving DecidableEq, Repr

/-- The waveform sub-state `WSTATE` (10_state.md R44); the code 3 never occurs. -/
inductive WState where
  | idle
  | active
  | decaying
  deriving DecidableEq, Repr

/-- The two sticky fault bits of `STATUS` (10_state.md R36); its bits 15:2 read as 0 and are never written. -/
structure Status where
  ill  : Bool
  zper : Bool
  deriving DecidableEq, Repr

/-- The sixteen parameter registers of a channel (10_state.md R39), in the order of their numbers. -/
structure ParamRegs where
  div        : BitVec 4
  duty       : BitVec 7
  phase      : BitVec 7
  level      : BitVec 7
  offset     : BitVec 7
  swingAmt   : BitVec 3
  swingEvery : BitVec 5
  prob       : BitVec 7
  eucEn      : Bool
  eucSteps   : BitVec 7
  eucTrig    : BitVec 7
  eucRot     : BitVec 6
  eucPad     : BitVec 7
  wave       : Shape
  outEn      : Bool
  ext        : Bool
  deriving DecidableEq, Repr

/-- The render state of a channel, the group of 10_state.md R54. -/
structure RenderState where
  wstate  : WState
  elapsed : Word
  sample  : Byte
  dir     : Bool
  shHold  : Byte
  srWalk  : Byte
  srFilt  : Half
  deriving DecidableEq, Repr

/-- One channel (10_state.md R38 to R53). `chId` and `kind` are hardwired: no operation writes them. -/
structure Channel where
  chId     : BitVec 2
  kind     : Kind
  par      : ParamRegs
  prevEn   : Bool
  rhythm   : BitVec 64
  cursor   : BitVec 6
  render   : RenderState
  pend     : Bool
  extcnt   : BitVec 7
  gateOut  : Bool
  levelOut : Byte
  deriving DecidableEq, Repr

/-- The four channels (00_scope.md R9). -/
structure Channels where
  c0 : Channel
  c1 : Channel
  c2 : Channel
  c3 : Channel
  deriving DecidableEq, Repr

/-- What the host presents on the input ports at one command step (00_scope.md R7). -/
structure PortIn where
  rst      : Bool
  cmdValid : Bool
  cmd      : Word
  deriving DecidableEq, Repr

/-- The state of CORE (10_state.md), and `inputs`: the values of the input ports at the coming command steps, the next step's at
the head; when the list is empty the host presents `rst = 0` and `cmd_valid = 0` (the model's own field, notes/assumptions/1). -/
structure State where
  gtick  : Word
  ppqn   : Half
  rng    : Word
  status : Status
  paused : Bool
  rdata  : Half
  chans  : Channels
  inputs : List PortIn
  deriving DecidableEq, Repr

/-- Why the machine stops. CORE never does: both of its faults set a sticky STATUS bit and execution continues with the next
command (60_exceptions.md R330), so the type has no constructor. Safe: no run ends in a fault. -/
inductive Fault where
  deriving DecidableEq, Repr

/-- Why a command has no meaning. -/
inductive Refusal where
  /-- Raised by `exec` alone, for a command of the table that has no meaning yet. Safe. No arm raises it: every command has its
  meaning. -/
  | notModelled (mnemonic : String)
  deriving DecidableEq, Repr

/-- The parameter registers after reset (70_reset_and_hazards.md R361); `DIV` is `IDX_X1`. -/
def ParamRegs.reset (p : Params) : ParamRegs where
  div        := BitVec.ofNat 4 p.idxX1
  duty       := 50
  phase      := 0
  level      := 100
  offset     := 0
  swingAmt   := 0
  swingEvery := 2
  prob       := 100
  eucEn      := false
  eucSteps   := 16
  eucTrig    := 4
  eucRot     := 0
  eucPad     := 0
  wave       := .gate
  outEn      := true
  ext        := false

/-- The render state after "reset the render state" (10_state.md R54). -/
def RenderState.reset : RenderState where
  wstate  := .idle
  elapsed := 0
  sample  := 0
  dir     := false
  shHold  := 0
  srWalk  := 128
  srFilt  := 0x8000

/-- A channel after reset, its identity kept (70_reset_and_hazards.md R361, 10_state.md R38). -/
def Channel.reset (p : Params) (chId : BitVec 2) (kind : Kind) : Channel where
  chId     := chId
  kind     := kind
  par      := ParamRegs.reset p
  prevEn   := true
  rhythm   := 0x0000000000001111
  cursor   := 0
  render   := RenderState.reset
  pend     := false
  extcnt   := 0
  gateOut  := false
  levelOut := 0

/-- CORE after reset with the parameters `p`, nothing presented on its ports. -/
def State.resetWith (p : Params) : State where
  gtick  := 0
  ppqn   := 96
  rng    := 0x00000001
  status := ⟨false, false⟩
  paused := false
  rdata  := 0
  chans  :=
    { c0 := Channel.reset p 0 (p.chKind 0)
      c1 := Channel.reset p 1 (p.chKind 1)
      c2 := Channel.reset p 2 (p.chKind 2)
      c3 := Channel.reset p 3 (p.chKind 3) }
  inputs := []

/-- The machine right after reset (70_reset_and_hazards.md R360, R361), with the default parameters. -/
def State.reset : State := State.resetWith defaultParams

end Sys2Proof.Machine
end

