-- ==== Sys2Proof/Machine/Flags.lean ====
section
/-! DEFINITION. The flags of CORE: the two sticky bits of STATUS (spec/10_state.md R36; CORE has no condition codes, R32). -/

namespace Sys2Proof.Machine

/-- A flag as the number 0 or 1. -/
def bit (b : Bool) : Nat := if b then 1 else 0

/-- `STATUS.ILL <- 1` (60_exceptions.md R331); sticky: only reset clears it. -/
def Status.setIll (st : Status) : Status := { st with ill := true }

/-- `STATUS.ZPER <- 1` when a channel step raised ZERO_PERIOD (60_exceptions.md R334); sticky. -/
def Status.orZper (st : Status) (raised : Bool) : Status := { st with zper := st.zper || raised }

/-- STATUS as 16 bits: bit 0 ILL, bit 1 ZPER, bits 15:2 zero (10_state.md R36). -/
def Status.word (st : Status) : Half := BitVec.ofNat 16 (bit st.ill + 2 * bit st.zper)

end Sys2Proof.Machine
end

