-- ==== Sys2Proof/Machine/Operands.lean ====
section
/-! DEFINITION. Operand assembly (spec/30_encoding.md R92), the clamp of 00_scope.md R13 and the narrowing of a clamped value into a
register of its width, and the codes of the enumerated registers (43_waveform.md R240, 10_state.md R38, R44). -/

namespace Sys2Proof.Machine

/-- `sext_16(DATA)`, the operand of every setter and of SET_PPQN. -/
def sext16 (d : Half) : Int := d.toInt

/-- `zext_16(DATA)`, the operand of SEED. -/
def zext16 (d : Half) : Nat := d.toNat

/-- `clamp(v, lo, hi) = max(lo, min(hi, v))` (00_scope.md R13). -/
def clamp (v lo hi : Int) : Int := max lo (min hi v)

/-- A clamped value in a register of `w` bits; every rule clamps into the register's range, which the width holds. -/
def clampReg (w : Nat) (v lo hi : Int) : BitVec w := BitVec.ofInt w (clamp v lo hi)

/-- A clamped value in a 1-bit register (`clamp(v, 0, 1)`, 41_setters.md R160, R164, R166). -/
def clampFlag (v : Int) : Bool := clamp v 0 1 == 1

/-- The shape with a code (43_waveform.md R240). SET_WAVE clamps to 9, so the last line stands for the code 9 alone. -/
def shapeOfCode : Nat → Shape
  | 0 => .gate
  | 1 => .triangle
  | 2 => .sine
  | 3 => .parabolic
  | 4 => .sawtooth
  | 5 => .expEnv
  | 6 => .logEnv
  | 7 => .random
  | 8 => .smoothRandom
  | _ => .sampleHold

/-- The code of a shape (43_waveform.md R240). -/
def Shape.code : Shape → Nat
  | .gate => 0
  | .triangle => 1
  | .sine => 2
  | .parabolic => 3
  | .sawtooth => 4
  | .expEnv => 5
  | .logEnv => 6
  | .random => 7
  | .smoothRandom => 8
  | .sampleHold => 9

/-- The code of a sub-state (10_state.md R44). -/
def WState.code : WState → Nat
  | .idle => 0
  | .active => 1
  | .decaying => 2

/-- The code of a kind (10_state.md R38). -/
def kindCode : Kind → Nat
  | .digital => 0
  | .analog => 1

end Sys2Proof.Machine
end

