-- ==== Sys2Proof/Machine/Ops.lean ====
section
/-! DEFINITION. The named operations over the registers of CORE: reading and writing a channel, ending a command, raising the two
faults (spec/60_exceptions.md R331, R334), reset (70_reset_and_hazards.md R360), taking the next port values, the random draws
(42_tick.md R227) and the output ports (00_scope.md R7). CORE has no memory, no trap entry and no return from one
(20_memory.md R70, 60_exceptions.md R330, R338). -/

namespace Sys2Proof.Machine

/-- Channel `ch` of the four. -/
def Channels.get (cs : Channels) (ch : Chan) : Channel :=
  match ch with
  | 0 => cs.c0
  | 1 => cs.c1
  | 2 => cs.c2
  | 3 => cs.c3

/-- The four channels with channel `ch` replaced. -/
def Channels.set (cs : Channels) (ch : Chan) (c : Channel) : Channels :=
  match ch with
  | 0 => { cs with c0 := c }
  | 1 => { cs with c1 := c }
  | 2 => { cs with c2 := c }
  | 3 => { cs with c3 := c }

/-- `for ch in 0..3` over an action that acts on each channel alone. -/
def Channels.map (f : Channel → Channel) (cs : Channels) : Channels :=
  { c0 := f cs.c0, c1 := f cs.c1, c2 := f cs.c2, c3 := f cs.c3 }

/-- Channel `ch` of a state. -/
def State.chan (s : State) (ch : Chan) : Channel := s.chans.get ch

/-- The state with channel `ch` replaced. -/
def State.setChan (s : State) (ch : Chan) (c : Channel) : State := { s with chans := s.chans.set ch c }

/-- `rdata <- v`. -/
def State.setRdata (s : State) (v : Half) : State := { s with rdata := v }

/-- The end of a command that is not a read: `rdata <- 0` (00_scope.md R7). -/
def finish (s : State) : Host.Outcome State Fault Refusal := .next (s.setRdata 0)

/-- The end of a read: `rdata <- v` and nothing else (44_control.md R300). -/
def finishRead (s : State) (v : Half) : Host.Outcome State Fault Refusal := .next (s.setRdata v)

/-- A setter on channel `ch`: its effect on that channel, then `rdata <- 0` (41_setters.md R150). -/
def setter (ch : Chan) (f : Channel → Channel) (s : State) : Host.Outcome State Fault Refusal :=
  finish (s.setChan ch (f (s.chan ch)))

/-- `raise ILLEGAL(w)`: exactly `STATUS.ILL <- 1` and `rdata <- 0` (30_encoding.md R101, 60_exceptions.md R331). -/
def raiseIllegal (s : State) : State := { s with status := s.status.setIll, rdata := 0 }

/-- `raise ZERO_PERIOD(ch)`, when the channel step raised it: `STATUS.ZPER <- 1` (60_exceptions.md R334). That the channel keeps
every field is in the channel step (42_tick.md R203). -/
def raiseZeroPeriod (raised : Bool) (s : State) : State := { s with status := s.status.orZper raised }

/-- One step with `rst = 1` (70_reset_and_hazards.md R360, R361): every state element takes its reset value, the hardwired
`CH_ID` and `KIND` stay (10_state.md R38), and so do the port values the host has yet to present. -/
def applyReset (p : Params) (s : State) : State :=
  { State.resetWith p with
    chans :=
      { c0 := Channel.reset p s.chans.c0.chId s.chans.c0.kind
        c1 := Channel.reset p s.chans.c1.chId s.chans.c1.kind
        c2 := Channel.reset p s.chans.c2.chId s.chans.c2.kind
        c3 := Channel.reset p s.chans.c3.chId s.chans.c3.kind }
    inputs := s.inputs }

/-- What the host presents at the next command step: the head of `inputs`, and nothing when the list is empty. -/
def State.presented (s : State) : PortIn := s.inputs.headD ⟨false, false, 0⟩

/-- The state once the port values of this command step are taken. -/
def State.consume (s : State) : State := { s with inputs := s.inputs.tail }

/-- The state with one command word presented next, before everything the host was to present. -/
def State.present (s : State) (w : Word) : State := { s with inputs := ⟨false, true, w⟩ :: s.inputs }

/-- `draw100()` on the generator's NEW state: `(RNG * 100) >> 32` (42_tick.md R227). -/
def draw100 (rng : Word) : Nat := (rng.toNat * 100) / 2 ^ 32

/-- `drawbyte()` on the generator's NEW state: `RNG >> 24` (42_tick.md R227). -/
def drawByte (rng : Word) : Byte := rng.extractLsb' 24 8

/-- The port `gate_out[ch]` (00_scope.md R7, 10_state.md R52). -/
def State.gatePort (s : State) (ch : Chan) : Bool := (s.chan ch).gateOut

/-- The port `level_out[ch]` (00_scope.md R7, 10_state.md R53). -/
def State.levelPort (s : State) (ch : Chan) : Byte := (s.chan ch).levelOut

/-- Bits `16 w + 15 : 16 w` of a value (20_memory.md R75: the least significant word at the lowest address). -/
def wordAt (n : Nat) (v : BitVec n) (w : Nat) : Half := v.extractLsb' (16 * w) 16

end Sys2Proof.Machine
end

