-- ==== Sys2Proof/Machine/Control.lean ====
section
/-! DEFINITION. The global control commands (spec/44_control.md R290 to R297). -/

namespace Sys2Proof.Machine

/-- NOP (44_control.md R290). -/
def execNop (s : State) : Host.Outcome State Fault Refusal := finish s

/-- PAUSE on one channel: `PREV_EN <- OUT_EN; OUT_EN <- 0` (44_control.md R291). -/
def pauseChannel (c : Channel) : Channel := { c with prevEn := c.par.outEn, par := { c.par with outEn := false } }

/-- PAUSE (44_control.md R291): nothing when already paused. -/
def execPause (s : State) : Host.Outcome State Fault Refusal :=
  finish (if s.paused then s else { s with chans := s.chans.map pauseChannel, paused := true })

/-- RESUME on one channel: `OUT_EN <- PREV_EN` (44_control.md R292). -/
def resumeChannel (c : Channel) : Channel := { c with par := { c.par with outEn := c.prevEn } }

/-- RESUME (44_control.md R292): nothing when not paused. -/
def execResume (s : State) : Host.Outcome State Fault Refusal :=
  finish (if s.paused then { s with chans := s.chans.map resumeChannel, paused := false } else s)

/-- SET_PPQN (44_control.md R294): `PPQN <- clamp(v, 1, 32767)`. -/
def execSetPpqn (d : Half) (s : State) : Host.Outcome State Fault Refusal :=
  finish { s with ppqn := clampReg 16 (sext16 d) 1 32767 }

/-- CLR_GTICK (44_control.md R296). -/
def execClrGtick (s : State) : Host.Outcome State Fault Refusal := finish { s with gtick := 0 }

/-- SEED (44_control.md R297): `RNG <- u if u != 0 else 1` with `u = zext_16(DATA)`. -/
def execSeed (d : Half) (s : State) : Host.Outcome State Fault Refusal :=
  finish { s with rng := if zext16 d = 0 then 1 else BitVec.ofNat 32 (zext16 d) }

end Sys2Proof.Machine
end

