-- ==== Sys2Proof/Machine/Readback.lean ====
section
/-! DEFINITION. The readback spaces (spec/20_memory.md R70 to R73) and the five read commands (44_control.md R300 to R307). -/

namespace Sys2Proof.Machine

/-- A flag as a 16-bit word. -/
def flagWord (b : Bool) : Half := BitVec.ofNat 16 (bit b)

/-- PARAM space: parameter register `a`, zero-extended (20_memory.md R71, 10_state.md R39). -/
def readParam (r : ParamRegs) (a : Nat) : Half :=
  match a with
  | 0 => r.div.setWidth 16
  | 1 => r.duty.setWidth 16
  | 2 => r.phase.setWidth 16
  | 3 => r.level.setWidth 16
  | 4 => r.offset.setWidth 16
  | 5 => r.swingAmt.setWidth 16
  | 6 => r.swingEvery.setWidth 16
  | 7 => r.prob.setWidth 16
  | 8 => flagWord r.eucEn
  | 9 => r.eucSteps.setWidth 16
  | 10 => r.eucTrig.setWidth 16
  | 11 => r.eucRot.setWidth 16
  | 12 => r.eucPad.setWidth 16
  | 13 => BitVec.ofNat 16 r.wave.code
  | 14 => flagWord r.outEn
  | _ => flagWord r.ext

/-- STATE space address 3: `{8'b0, CH_ID, KIND, PREV_EN, PEND, DIR, WSTATE}` (20_memory.md R72). -/
def flagsWord (c : Channel) : Half :=
  BitVec.ofNat 16
    (64 * c.chId.toNat + 32 * kindCode c.kind + 16 * bit c.prevEn + 8 * bit c.pend + 4 * bit c.render.dir + c.render.wstate.code)

/-- STATE space of a channel (20_memory.md R72): addresses 0..8, none beyond. -/
def readState (c : Channel) (a : Nat) : Option Half :=
  match a with
  | 0 => some (c.cursor.setWidth 16)
  | 1 => some (wordAt 32 c.render.elapsed 0)
  | 2 => some (wordAt 32 c.render.elapsed 1)
  | 3 => some (flagsWord c)
  | 4 => some (c.render.sample.setWidth 16)
  | 5 => some (c.render.shHold.setWidth 16)
  | 6 => some (c.render.srWalk.setWidth 16)
  | 7 => some c.render.srFilt
  | 8 => some (c.extcnt.setWidth 16)
  | _ => none

/-- RHYTHM space of a channel (20_memory.md R73): addresses 0..3, none beyond. -/
def readRhythm (c : Channel) (a : Nat) : Option Half := if a ≤ 3 then some (wordAt 64 c.rhythm a) else none

/-- GLOBAL space (20_memory.md R73): addresses 0..6, none beyond. -/
def readGlobal (s : State) (a : Nat) : Option Half :=
  match a with
  | 0 => some s.ppqn
  | 1 => some (wordAt 32 s.gtick 0)
  | 2 => some (wordAt 32 s.gtick 1)
  | 3 => some s.status.word
  | 4 => some (flagWord s.paused)
  | 5 => some (wordAt 32 s.rng 0)
  | 6 => some (wordAt 32 s.rng 1)
  | _ => none

/-- RD_OUT's value: bit 8 GATE_OUT, bits 7:0 LEVEL_OUT (44_control.md R303). -/
def outWord (c : Channel) : Half := BitVec.ofNat 16 (256 * bit c.gateOut + c.levelOut.toNat)

/-- A read whose address its space may not have: without an entry the command is illegal (30_encoding.md R99, R101;
notes/assumptions/8). -/
def readOrIllegal (v : Option Half) (s : State) : Host.Outcome State Fault Refusal :=
  match v with
  | some v => finishRead s v
  | none => .next (raiseIllegal s)

/-- RD_OUT (44_control.md R303). -/
def execRdOut (ch : Chan) (s : State) : Host.Outcome State Fault Refusal := finishRead s (outWord (s.chan ch))

/-- RD_PARAM (44_control.md R304). -/
def execRdParam (ch : Chan) (a : BitVec 4) (s : State) : Host.Outcome State Fault Refusal :=
  finishRead s (readParam (s.chan ch).par a.toNat)

/-- RD_STATE (44_control.md R305). -/
def execRdState (ch : Chan) (a : BitVec 4) (s : State) : Host.Outcome State Fault Refusal :=
  readOrIllegal (readState (s.chan ch) a.toNat) s

/-- RD_RHYTHM (44_control.md R306). -/
def execRdRhythm (ch : Chan) (a : BitVec 4) (s : State) : Host.Outcome State Fault Refusal :=
  readOrIllegal (readRhythm (s.chan ch) a.toNat) s

/-- RD_GLOBAL (44_control.md R307). -/
def execRdGlobal (a : BitVec 4) (s : State) : Host.Outcome State Fault Refusal :=
  readOrIllegal (readGlobal s a.toNat) s

end Sys2Proof.Machine
end

