-- ==== Sys2Proof/Machine/Euclid.lean ====
section
/-! DEFINITION. The Euclidean pattern generator and REGEN (spec/40_euclid.md R120 to R129). -/

namespace Sys2Proof.Machine

/-- The loop of `BJ` (40_euclid.md R122) on the lists of groups `A` and `B`. `fuel` bounds the iterations; at most `n - 1` run for
`k >= 1` (R126), so that `n` is enough (notes/assumptions/7). -/
def bjLoop : Nat → List (List Bool) → List (List Bool) → List Bool
  | 0, a, b => a.flatten ++ b.flatten
  | fuel + 1, a, b =>
    if 1 < b.length then
      bjLoop fuel (List.zipWith (· ++ ·) a b)
        (if b.length < a.length then a.drop (min a.length b.length) else b.drop (min a.length b.length))
    else a.flatten ++ b.flatten

/-- `BJ(k, n)`, the Bjorklund pairing algorithm (40_euclid.md R122), element 0 first. -/
def bj (k n : Nat) : List Bool :=
  bjLoop n (List.replicate k [true]) (List.replicate (n - k) [false])

/-- `EUC_ROM[n][k]` (40_euclid.md R121); it has no entry for `k = 0`, `k > n` or `n > 64` (notes/assumptions/5). -/
def eucRom (n k : Nat) : List Bool :=
  if 1 ≤ k ∧ k ≤ n ∧ n ≤ 64 then bj k n else Config.missingRomEntry n k

/-- The number whose bit `i` is element `i` of the list. -/
def packBits : List Bool → Nat
  | [] => 0
  | b :: bs => bit b + 2 * packBits bs

/-- The first `n` bits of `GEN(n, k, r, p)`: `base[(i + r) mod n]` (40_euclid.md R124). -/
def rotated (n r : Nat) (base : List Bool) : List Bool :=
  (List.range n).map fun i => base.getD ((i + r) % n) false

/-- `GEN(n, k, r, p)`, the 64-bit pattern (40_euclid.md R124). The pad changes no bit of it. -/
def gen (n k r _pad : Nat) : BitVec 64 := BitVec.ofNat 64 (packBits (rotated n r (eucRom n k)))

/-- `EUC_STEPS + EUC_PAD`, the length of the sequence the cursor walks. -/
def ParamRegs.seqLen (r : ParamRegs) : Nat := r.eucSteps.toNat + r.eucPad.toNat

/-- `GEN` of a channel's Euclidean parameters. -/
def ParamRegs.pattern (r : ParamRegs) : BitVec 64 :=
  gen r.eucSteps.toNat r.eucTrig.toNat r.eucRot.toNat r.eucPad.toNat

/-- `REGEN(ch)` (40_euclid.md R127). -/
def regen (c : Channel) : Channel :=
  { c with
    rhythm := c.par.pattern
    cursor := if c.par.seqLen ≤ c.cursor.toNat then 0 else c.cursor }

/-- `if ch.EUC_EN = 1: REGEN(ch)`, the end of the Euclidean setters (40_euclid.md R128 (a)). -/
def regenIfEnabled (c : Channel) : Channel := if c.par.eucEn then regen c else c

end Sys2Proof.Machine
end

