-- ==== Sys2Proof/Machine/Setters.lean ====
section
/-! DEFINITION. The sixteen parameter setters (spec/41_setters.md). `v = sext_16(DATA)` (30_encoding.md R92). -/

namespace Sys2Proof.Machine

/-- A setter that writes parameter registers alone. -/
def setPar (ch : Chan) (f : ParamRegs → ParamRegs) (s : State) : Host.Outcome State Fault Refusal :=
  setter ch (fun c => { c with par := f c.par }) s

/-- A Euclidean setter: it writes parameter registers and then runs REGEN when EUC_EN = 1 (40_euclid.md R128). -/
def setEuc (ch : Chan) (f : ParamRegs → ParamRegs) (s : State) : Host.Outcome State Fault Refusal :=
  setter ch (fun c => regenIfEnabled { c with par := f c.par }) s

/-- SET_DIV with the parameters `p`: `DIV <- clamp(v, IDX_X1 if EXT = 1 else 0, N_DIV - 1)` (41_setters.md R151). -/
def setDivWith (p : Params) (ch : Chan) (d : Half) (s : State) : Host.Outcome State Fault Refusal :=
  setPar ch (fun r =>
    { r with div := clampReg 4 (sext16 d) (if r.ext then (p.idxX1 : Int) else 0) ((p.nDiv : Int) - 1) }) s

/-- SET_SWING_AMT with the parameters `p`: `SWING_AMT <- clamp(v, 0, SWING_N - 1)` (41_setters.md R156). -/
def setSwingAmtWith (p : Params) (ch : Chan) (d : Half) (s : State) : Host.Outcome State Fault Refusal :=
  setPar ch (fun r => { r with swingAmt := clampReg 3 (sext16 d) 0 ((p.swingN : Int) - 1) }) s

/-- SET_DIV (41_setters.md R151). -/
def execSetDiv (ch : Chan) (d : Half) (s : State) : Host.Outcome State Fault Refusal := setDivWith defaultParams ch d s

/-- SET_DUTY (41_setters.md R152). -/
def execSetDuty (ch : Chan) (d : Half) (s : State) : Host.Outcome State Fault Refusal :=
  setPar ch (fun r => { r with duty := clampReg 7 (sext16 d) 1 99 }) s

/-- SET_PHASE (41_setters.md R153). -/
def execSetPhase (ch : Chan) (d : Half) (s : State) : Host.Outcome State Fault Refusal :=
  setPar ch (fun r => { r with phase := clampReg 7 (sext16 d) 0 100 }) s

/-- SET_LEVEL (41_setters.md R154). -/
def execSetLevel (ch : Chan) (d : Half) (s : State) : Host.Outcome State Fault Refusal :=
  setPar ch (fun r => { r with level := clampReg 7 (sext16 d) 0 100 }) s

/-- SET_OFFSET (41_setters.md R155). -/
def execSetOffset (ch : Chan) (d : Half) (s : State) : Host.Outcome State Fault Refusal :=
  setPar ch (fun r => { r with offset := clampReg 7 (sext16 d) 0 100 }) s

/-- SET_SWING_AMT (41_setters.md R156). -/
def execSetSwingAmt (ch : Chan) (d : Half) (s : State) : Host.Outcome State Fault Refusal :=
  setSwingAmtWith defaultParams ch d s

/-- SET_SWING_EVERY (41_setters.md R157). -/
def execSetSwingEvery (ch : Chan) (d : Half) (s : State) : Host.Outcome State Fault Refusal :=
  setPar ch (fun r => { r with swingEvery := clampReg 5 (sext16 d) 1 16 }) s

/-- SET_PROB (41_setters.md R158). -/
def execSetProb (ch : Chan) (d : Half) (s : State) : Host.Outcome State Fault Refusal :=
  setPar ch (fun r => { r with prob := clampReg 7 (sext16 d) 0 100 }) s

/-- SET_EUC_EN (41_setters.md R160): REGEN only when the flag goes from 0 to 1. -/
def execSetEucEn (ch : Chan) (d : Half) (s : State) : Host.Outcome State Fault Refusal :=
  setter ch (fun c =>
    let c' := { c with par := { c.par with eucEn := clampFlag (sext16 d) } }
    if !c.par.eucEn && c'.par.eucEn then regen c' else c') s

/-- The parameter registers after SET_EUC_STEPS: the steps clamped, then triggers, rotation and pad lowered to fit them
(41_setters.md R159). -/
def stepsPar (v : Int) (r : ParamRegs) : ParamRegs :=
  let n := clampReg 7 v 1 64
  { r with
    eucSteps := n
    eucTrig := BitVec.ofNat 7 (min r.eucTrig.toNat n.toNat)
    eucRot := BitVec.ofNat 6 (min r.eucRot.toNat (n.toNat - 1))
    eucPad := BitVec.ofNat 7 (min r.eucPad.toNat (64 - n.toNat)) }

/-- SET_EUC_STEPS (41_setters.md R159). -/
def execSetEucSteps (ch : Chan) (d : Half) (s : State) : Host.Outcome State Fault Refusal :=
  setEuc ch (stepsPar (sext16 d)) s

/-- SET_EUC_TRIG (41_setters.md R161). -/
def execSetEucTrig (ch : Chan) (d : Half) (s : State) : Host.Outcome State Fault Refusal :=
  setEuc ch (fun r => { r with eucTrig := clampReg 7 (sext16 d) 1 (r.eucSteps.toNat : Int) }) s

/-- SET_EUC_ROT (41_setters.md R162). -/
def execSetEucRot (ch : Chan) (d : Half) (s : State) : Host.Outcome State Fault Refusal :=
  setEuc ch (fun r => { r with eucRot := clampReg 6 (sext16 d) 0 ((r.eucSteps.toNat : Int) - 1) }) s

/-- SET_EUC_PAD (41_setters.md R163). -/
def execSetEucPad (ch : Chan) (d : Half) (s : State) : Host.Outcome State Fault Refusal :=
  setEuc ch (fun r => { r with eucPad := clampReg 7 (sext16 d) 0 (64 - (r.eucSteps.toNat : Int)) }) s

/-- SET_WAVE (41_setters.md R165). -/
def execSetWave (ch : Chan) (d : Half) (s : State) : Host.Outcome State Fault Refusal :=
  setPar ch (fun r => { r with wave := shapeOfCode (clamp (sext16 d) 0 9).toNat }) s

/-- SET_OUT_EN (41_setters.md R164): during a master pause the write goes to the snapshot. -/
def execSetOutEn (ch : Chan) (d : Half) (s : State) : Host.Outcome State Fault Refusal :=
  setter ch (fun c =>
    if s.paused then { c with prevEn := clampFlag (sext16 d) }
    else { c with par := { c.par with outEn := clampFlag (sext16 d) } }) s

/-- SET_EXTCLK (41_setters.md R166): a change of EXT clears EXTCNT and PEND; DIV is not clamped again. -/
def execSetExtclk (ch : Chan) (d : Half) (s : State) : Host.Outcome State Fault Refusal :=
  setter ch (fun c =>
    let e := clampFlag (sext16 d)
    let c' := if e == c.par.ext then c else { c with extcnt := 0, pend := false }
    { c' with par := { c'.par with ext := e } }) s

end Sys2Proof.Machine
end

