-- ==== Sys2Proof/Machine/Tables.lean ====
section
/-! DEFINITION. The four shape tables of spec/43_waveform.md R270 to R273 (257 entries each, stored row by row as the spec
prints them, normative) and the reader of a table entry. -/

namespace Sys2Proof.Machine

/-- `T[i]` of a shape table (20_memory.md R74). The tables have the entries `0..256`; past them the value is free
(notes/assumptions/6), and no rule reads there (43_waveform.md R243). -/
def lutRead (t : List Nat) (i : Nat) : Nat := t.getD i (Config.offTableSample i)

/-- SINE_LUT: one sine cycle starting at its minimum (43_waveform.md R270). -/
def sineLut : List Nat :=
  [0, 0, 0, 0, 1, 1, 1, 2, 2, 3, 4, 5, 5, 6, 7, 9] ++
  [10, 11, 12, 14, 15, 17, 18, 20, 21, 23, 25, 27, 29, 31, 33, 35] ++
  [37, 40, 42, 44, 47, 49, 52, 54, 57, 59, 62, 65, 67, 70, 73, 76] ++
  [79, 82, 85, 88, 90, 93, 97, 100, 103, 106, 109, 112, 115, 118, 121, 124] ++
  [128, 131, 134, 137, 140, 143, 146, 149, 152, 155, 158, 162, 165, 167, 170, 173] ++
  [176, 179, 182, 185, 188, 190, 193, 196, 198, 201, 203, 206, 208, 211, 213, 215] ++
  [218, 220, 222, 224, 226, 228, 230, 232, 234, 235, 237, 238, 240, 241, 243, 244] ++
  [245, 246, 248, 249, 250, 250, 251, 252, 253, 253, 254, 254, 254, 255, 255, 255] ++
  [255, 255, 255, 255, 254, 254, 254, 253, 253, 252, 251, 250, 250, 249, 248, 246] ++
  [245, 244, 243, 241, 240, 238, 237, 235, 234, 232, 230, 228, 226, 224, 222, 220] ++
  [218, 215, 213, 211, 208, 206, 203, 201, 198, 196, 193, 190, 188, 185, 182, 179] ++
  [176, 173, 170, 167, 165, 162, 158, 155, 152, 149, 146, 143, 140, 137, 134, 131] ++
  [128, 124, 121, 118, 115, 112, 109, 106, 103, 100, 97, 93, 90, 88, 85, 82] ++
  [79, 76, 73, 70, 67, 65, 62, 59, 57, 54, 52, 49, 47, 44, 42, 40] ++
  [37, 35, 33, 31, 29, 27, 25, 23, 21, 20, 18, 17, 15, 14, 12, 11] ++
  [10, 9, 7, 6, 5, 5, 4, 3, 2, 2, 1, 1, 1, 0, 0, 0] ++
  [0]

/-- HALF_LUT: the half sine of PARABOLIC (43_waveform.md R271). -/
def halfLut : List Nat :=
  [0, 3, 6, 9, 13, 16, 19, 22, 25, 28, 31, 34, 37, 41, 44, 47] ++
  [50, 53, 56, 59, 62, 65, 68, 71, 74, 77, 80, 83, 86, 89, 92, 95] ++
  [98, 100, 103, 106, 109, 112, 115, 117, 120, 123, 126, 128, 131, 134, 136, 139] ++
  [142, 144, 147, 149, 152, 154, 157, 159, 162, 164, 167, 169, 171, 174, 176, 178] ++
  [180, 183, 185, 187, 189, 191, 193, 195, 197, 199, 201, 203, 205, 207, 208, 210] ++
  [212, 214, 215, 217, 219, 220, 222, 223, 225, 226, 228, 229, 231, 232, 233, 234] ++
  [236, 237, 238, 239, 240, 241, 242, 243, 244, 245, 246, 247, 247, 248, 249, 249] ++
  [250, 251, 251, 252, 252, 253, 253, 253, 254, 254, 254, 255, 255, 255, 255, 255] ++
  [255, 255, 255, 255, 255, 255, 254, 254, 254, 253, 253, 253, 252, 252, 251, 251] ++
  [250, 249, 249, 248, 247, 247, 246, 245, 244, 243, 242, 241, 240, 239, 238, 237] ++
  [236, 234, 233, 232, 231, 229, 228, 226, 225, 223, 222, 220, 219, 217, 215, 214] ++
  [212, 210, 208, 207, 205, 203, 201, 199, 197, 195, 193, 191, 189, 187, 185, 183] ++
  [180, 178, 176, 174, 171, 169, 167, 164, 162, 159, 157, 154, 152, 149, 147, 144] ++
  [142, 139, 136, 134, 131, 128, 126, 123, 120, 117, 115, 112, 109, 106, 103, 100] ++
  [98, 95, 92, 89, 86, 83, 80, 77, 74, 71, 68, 65, 62, 59, 56, 53] ++
  [50, 47, 44, 41, 37, 34, 31, 28, 25, 22, 19, 16, 13, 9, 6, 3] ++
  [0]

/-- EXP_LUT: the normalised decaying exponential (43_waveform.md R272). -/
def expLut : List Nat :=
  [255, 251, 247, 243, 239, 235, 232, 228, 224, 221, 217, 214, 211, 207, 204, 201] ++
  [198, 194, 191, 188, 185, 182, 179, 177, 174, 171, 168, 166, 163, 160, 158, 155] ++
  [153, 150, 148, 146, 143, 141, 139, 136, 134, 132, 130, 128, 126, 124, 122, 120] ++
  [118, 116, 114, 112, 111, 109, 107, 105, 104, 102, 100, 99, 97, 95, 94, 92] ++
  [91, 89, 88, 86, 85, 84, 82, 81, 80, 78, 77, 76, 74, 73, 72, 71] ++
  [70, 69, 67, 66, 65, 64, 63, 62, 61, 60, 59, 58, 57, 56, 55, 54] ++
  [53, 52, 51, 51, 50, 49, 48, 47, 46, 46, 45, 44, 43, 43, 42, 41] ++
  [40, 40, 39, 38, 38, 37, 36, 36, 35, 34, 34, 33, 33, 32, 32, 31] ++
  [30, 30, 29, 29, 28, 28, 27, 27, 26, 26, 25, 25, 24, 24, 23, 23] ++
  [23, 22, 22, 21, 21, 21, 20, 20, 19, 19, 19, 18, 18, 18, 17, 17] ++
  [17, 16, 16, 16, 15, 15, 15, 14, 14, 14, 13, 13, 13, 13, 12, 12] ++
  [12, 12, 11, 11, 11, 11, 10, 10, 10, 10, 9, 9, 9, 9, 9, 8] ++
  [8, 8, 8, 8, 7, 7, 7, 7, 7, 6, 6, 6, 6, 6, 6, 5] ++
  [5, 5, 5, 5, 5, 5, 4, 4, 4, 4, 4, 4, 4, 3, 3, 3] ++
  [3, 3, 3, 3, 3, 2, 2, 2, 2, 2, 2, 2, 2, 2, 2, 1] ++
  [1, 1, 1, 1, 1, 1, 1, 1, 1, 1, 0, 0, 0, 0, 0, 0] ++
  [0]

/-- LOG_LUT: the point reflection of EXP_LUT (43_waveform.md R273). -/
def logLut : List Nat :=
  [255, 255, 255, 255, 255, 255, 255, 254, 254, 254, 254, 254, 254, 254, 254, 254] ++
  [254, 254, 253, 253, 253, 253, 253, 253, 253, 253, 253, 253, 252, 252, 252, 252] ++
  [252, 252, 252, 252, 251, 251, 251, 251, 251, 251, 251, 250, 250, 250, 250, 250] ++
  [250, 250, 249, 249, 249, 249, 249, 249, 248, 248, 248, 248, 248, 247, 247, 247] ++
  [247, 247, 246, 246, 246, 246, 246, 245, 245, 245, 245, 244, 244, 244, 244, 243] ++
  [243, 243, 243, 242, 242, 242, 242, 241, 241, 241, 240, 240, 240, 239, 239, 239] ++
  [238, 238, 238, 237, 237, 237, 236, 236, 236, 235, 235, 234, 234, 234, 233, 233] ++
  [232, 232, 232, 231, 231, 230, 230, 229, 229, 228, 228, 227, 227, 226, 226, 225] ++
  [225, 224, 223, 223, 222, 222, 221, 221, 220, 219, 219, 218, 217, 217, 216, 215] ++
  [215, 214, 213, 212, 212, 211, 210, 209, 209, 208, 207, 206, 205, 204, 204, 203] ++
  [202, 201, 200, 199, 198, 197, 196, 195, 194, 193, 192, 191, 190, 189, 188, 186] ++
  [185, 184, 183, 182, 181, 179, 178, 177, 175, 174, 173, 171, 170, 169, 167, 166] ++
  [164, 163, 161, 160, 158, 156, 155, 153, 151, 150, 148, 146, 144, 143, 141, 139] ++
  [137, 135, 133, 131, 129, 127, 125, 123, 121, 119, 116, 114, 112, 109, 107, 105] ++
  [102, 100, 97, 95, 92, 89, 87, 84, 81, 78, 76, 73, 70, 67, 64, 61] ++
  [57, 54, 51, 48, 44, 41, 38, 34, 31, 27, 23, 20, 16, 12, 8, 4] ++
  [0]

end Sys2Proof.Machine
end

