-- ==== Sys2Proof/Machine/Render.lean ====
section
/-! DEFINITION. The waveform renderer, the shape classes, the level mapping and the off-render (spec/43_waveform.md). -/

namespace Sys2Proof.Machine

/-- The shape classes that select the cutoff rule (43_waveform.md R241). -/
inductive ShapeClass where
  | gateLike
  | envelope
  | continuous
  deriving DecidableEq, Repr

/-- The class of a shape (43_waveform.md R241). -/
def Shape.cls : Shape → ShapeClass
  | .gate | .parabolic | .sawtooth | .random => .gateLike
  | .expEnv | .logEnv => .envelope
  | .triangle | .sine | .smoothRandom | .sampleHold => .continuous

/-- `LUTI(T, ph)`, linear interpolation at a 16-bit phase (43_waveform.md R244). -/
def luti (t : List Nat) (ph : Nat) : Nat :=
  (lutRead t (ph / 256) * (256 - ph % 256) + lutRead t (ph / 256 + 1) * (ph % 256)) / 256

/-- What the renderer hands back: the sample, the direction bit, and the state it may have written (43_waveform.md R242). -/
structure Rendered where
  smp    : Byte
  dir    : Bool
  rng    : Word
  srWalk : Byte
  srFilt : Half
  deriving DecidableEq, Repr

/-- The sample of TRIANGLE (43_waveform.md R253): `max(0, P - e)` is the truncated difference. -/
def triangleSample (e period d : Nat) : Nat := if e < d then (255 * e) / d else (255 * (period - e)) / (period - d)

/-- The phase of SINE (43_waveform.md R254). -/
def sinePhase (e period : Nat) : Nat := (65536 * (e % period)) / period

/-- The phase of PARABOLIC and of the envelopes over the window `D` (43_waveform.md R255, R257). -/
def windowPhase (e d : Nat) : Nat := (65536 * e) / d

/-- The walk of SMOOTH_RANDOM after the drawn byte `r` (43_waveform.md R261). -/
def smoothWalk (p : Params) (walk r : Byte) : Byte :=
  BitVec.ofInt 8 (clamp ((walk.toNat : Int) + (((r.toNat % (2 * p.srStep + 1) : Nat) : Int) - (p.srStep : Int))) 0 255)

/-- The filter of SMOOTH_RANDOM after the walk's update; the shift of a negative difference is the floor (43_waveform.md R261,
00_scope.md R13). -/
def smoothFilt (p : Params) (filt : Half) (walk : Byte) : Half :=
  BitVec.ofInt 16 ((filt.toNat : Int) + (((walk.toNat * 256 : Nat) : Int) - (filt.toNat : Int)) / ((2 ^ p.srK : Nat) : Int))

/-- A sample and a direction from a shape that writes no state. -/
def plainRender (c : Channel) (rng : Word) (smp : Nat) (dir : Bool) : Rendered :=
  { smp := BitVec.ofNat 8 smp, dir := dir, rng := rng, srWalk := c.render.srWalk, srFilt := c.render.srFilt }

/-- The shape of a channel that is not IDLE, `e` ticks after its cycle start (43_waveform.md R252 to R262). ACTIVE and DECAYING
render alike. -/
def renderShape (p : Params) (c : Channel) (e period d : Nat) (rng : Word) : Rendered :=
  match c.par.wave with
  | .gate => plainRender c rng 255 true
  | .triangle => plainRender c rng (triangleSample e period d) (decide (e < d))
  | .sine =>
    plainRender c rng (p.sineWarp c.par.duty.toNat (luti sineLut (sinePhase e period))) (decide (sinePhase e period < 32768))
  | .parabolic => plainRender c rng (luti halfLut (windowPhase e d)) (decide (windowPhase e d < 32768))
  | .sawtooth => plainRender c rng ((255 * e) / d) true
  | .expEnv => plainRender c rng (luti expLut (windowPhase e d)) false
  | .logEnv => plainRender c rng (luti logLut (windowPhase e d)) false
  | .random =>
    { smp := drawByte (p.rngStep rng), dir := true, rng := p.rngStep rng,
      srWalk := c.render.srWalk, srFilt := c.render.srFilt }
  | .smoothRandom =>
    let walk := smoothWalk p c.render.srWalk (drawByte (p.rngStep rng))
    let filt := smoothFilt p c.render.srFilt walk
    { smp := filt.extractLsb' 8 8, dir := true, rng := p.rngStep rng, srWalk := walk, srFilt := filt }
  | .sampleHold => plainRender c rng c.render.shHold.toNat true

/-- `RENDER(ch, e, P, D)` (43_waveform.md R242): an IDLE channel gives the sample 0 and the direction 0. -/
def render (p : Params) (c : Channel) (e period d : Nat) (rng : Word) : Rendered :=
  match c.render.wstate with
  | .idle => plainRender c rng 0 false
  | .active => renderShape p c e period d rng
  | .decaying => renderShape p c e period d rng

/-- `OFFLEVEL(ch)` (43_waveform.md R267). -/
def offLevel (c : Channel) : Byte :=
  match c.kind with
  | .digital => 0
  | .analog => BitVec.ofNat 8 ((c.par.offset.toNat * 255) / 100)

/-- `LEVEL_MAP(ch, smp)` (43_waveform.md R266), on the channel with its GATE_OUT already latched. -/
def levelMap (c : Channel) (smp : Byte) : Byte :=
  match c.kind with
  | .digital => if c.gateOut then 255 else 0
  | .analog =>
    match c.render.wstate with
    | .idle => offLevel c
    | .active | .decaying =>
      BitVec.ofNat 8 (min 255 ((smp.toNat * c.par.level.toNat) / 100 + (c.par.offset.toNat * 255) / 100))

end Sys2Proof.Machine
end

