-- ==== Sys2Proof/Machine/Timing.lean ====
section
/-! DEFINITION. The derived tick counts of a channel step: period, pulse duration, phase offset, swing, displacement, the start test
and ext-div mode (spec/42_tick.md R191 to R200, R206). All are exact integers, recomputed at every step (R198). -/

namespace Sys2Proof.Machine

/-- `P = (Q * den) div num` (42_tick.md R193). -/
def periodTicks (q : Nat) (r : Ratio) : Nat := (q * r.den) / r.num

/-- `D = (P * DUTY) div 100` (42_tick.md R194). -/
def pulseTicks (period duty : Nat) : Nat := (period * duty) / 100

/-- `OFF = (P * PHASE) div 100` (42_tick.md R195). -/
def phaseTicks (period phase : Nat) : Nat := (period * phase) / 100

/-- `S = (SWING_TABLE[SWING_AMT] * Q) div 96` (42_tick.md R196). -/
def swingTicks (p : Params) (amt q : Nat) : Nat := (p.swing amt * q) / 96

/-- `X`, the swing-displacement adder (42_tick.md R197): `OFF + S` on cycles `cyc = G div P` with `cyc mod SWING_EVERY = 0`,
`OFF` otherwise. -/
def displacement (g period off s every : Nat) : Nat := if (g / period) % every = 0 then off + s else off

/-- `(G = 0) or ((G - X) mod P = 0)`, the remainder mathematical also when `G < X` (42_tick.md R206). -/
def startTest (g period x : Nat) : Bool := g == 0 || ((g : Int) - (x : Int)) % (period : Int) == 0

/-- The ratio a channel's DIV selects. -/
def Channel.ratio (p : Params) (c : Channel) : Ratio := p.ratio c.par.div.toNat

/-- Ext-div mode: `EXT = 1` and a ratio below 1 (42_tick.md R200). -/
def Channel.extDiv (p : Params) (c : Channel) : Bool := c.par.ext && (c.ratio p).subUnity

/-- `P` of a channel at resolution `q`. -/
def Channel.period (p : Params) (q : Nat) (c : Channel) : Nat := periodTicks q (c.ratio p)

/-- `D` of a channel at resolution `q`. -/
def Channel.pulse (p : Params) (q : Nat) (c : Channel) : Nat := pulseTicks (c.period p q) c.par.duty.toNat

/-- `X` of a channel at global tick `g` and resolution `q`. -/
def Channel.displaced (p : Params) (g q : Nat) (c : Channel) : Nat :=
  displacement g (c.period p q) (phaseTicks (c.period p q) c.par.phase.toNat) (swingTicks p c.par.swingAmt.toNat q)
    c.par.swingEvery.toNat

/-- Whether a cycle starts on this channel step (42_tick.md R205 in ext-div mode, R206 otherwise). -/
def Channel.starts (p : Params) (g q : Nat) (c : Channel) : Bool :=
  if c.extDiv p then c.pend else startTest g (c.period p q) (c.displaced p g q)

end Sys2Proof.Machine
end

