-- ==== Sys2Proof/Machine/Tick.lean ====
section
/-! DEFINITION. The channel step and the two clocking commands TICK and EXT_PULSE (spec/42_tick.md R190, R201 to R221). -/

namespace Sys2Proof.Machine

/-- What a channel step hands on (42_tick.md R219: it writes only its own channel, RNG and STATUS.ZPER). -/
structure ChanStep where
  chan : Channel
  rng  : Word
  zper : Bool
  deriving DecidableEq, Repr

/-- A channel with the generator's state, between two parts of a channel step. -/
structure ChanRng where
  chan : Channel
  rng  : Word
  deriving DecidableEq, Repr

/-- `DISABLED_STEP(ch)` (42_tick.md R202). -/
def disabledStep (c : Channel) : Channel :=
  { c with render := RenderState.reset, pend := false, gateOut := false, levelOut := offLevel c }

/-- `min(ELAPSED + 1, 2^32 - 1)` (42_tick.md R204). -/
def satInc (e : Word) : Word := BitVec.ofNat 32 (min (e.toNat + 1) (2 ^ 32 - 1))

/-- The cursor after a Euclidean step: advance, wrapping at `EUC_STEPS + EUC_PAD` (42_tick.md R210). -/
def advanceCursor (c : Channel) : BitVec 6 :=
  if c.par.seqLen ≤ c.cursor.toNat + 1 then 0 else BitVec.ofNat 6 (c.cursor.toNat + 1)

/-- Whether the cycle fires: the Euclidean step under the cursor (42_tick.md R210) or the probability gate, whose draw is the value
of the generator's new state (R209). -/
def fires (p : Params) (c : Channel) (rng : Word) : Bool :=
  if c.par.eucEn then c.rhythm.getLsbD c.cursor.toNat else decide (draw100 (p.rngStep rng) < c.par.prob.toNat)

/-- What deciding whether the cycle fires leaves: the cursor moved in Euclidean mode, one draw otherwise (42_tick.md R209, R210). -/
def afterFire (p : Params) (c : Channel) (rng : Word) : ChanRng :=
  if c.par.eucEn then ⟨{ c with cursor := advanceCursor c }, rng⟩ else ⟨c, p.rngStep rng⟩

/-- A firing start: ACTIVE, rising, and a drawn SH_HOLD for SAMPLE_HOLD (42_tick.md R208). -/
def fireStart (p : Params) (x : ChanRng) : ChanRng :=
  let r := { x.chan.render with elapsed := 0, sample := 0, wstate := .active, dir := true }
  match x.chan.par.wave with
  | .sampleHold =>
    ⟨{ x.chan with render := { r with shHold := drawByte (p.rngStep x.rng) } }, p.rngStep x.rng⟩
  | _ => ⟨{ x.chan with render := r }, x.rng⟩

/-- A start that does not fire: the off-render (42_tick.md R208, R211). -/
def silentStart (x : ChanRng) : ChanRng :=
  ⟨{ x.chan with render := { x.chan.render with elapsed := 0, sample := 0, wstate := .idle, dir := false } }, x.rng⟩

/-- `START_ACTION(ch)` (42_tick.md R208). -/
def startAction (p : Params) (c : Channel) (rng : Word) : ChanRng :=
  if fires p c rng then fireStart p (afterFire p c rng) else silentStart (afterFire p c rng)

/-- `CUTOFF(ch, e, D)` on the sub-state (42_tick.md R213 to R215). -/
def cutoff (cls : ShapeClass) (w : WState) (e d : Nat) : WState :=
  match w with
  | .idle => .idle
  | w =>
    match cls with
    | .gateLike => if d ≤ e then .idle else w
    | .envelope => if d ≤ e then .idle else if 1 ≤ e then .decaying else w
    | .continuous => w

/-- The channel with the cutoff applied at its present ELAPSED. -/
def cutoffStep (c : Channel) (d : Nat) : Channel :=
  { c with render := { c.render with wstate := cutoff c.par.wave.cls c.render.wstate c.render.elapsed.toNat d } }

/-- `ch.DIR <- dir; ch.SAMPLE <- smp`, and the walk and filter the renderer wrote (42_tick.md R201, 43_waveform.md R242). -/
def storeRendered (c : Channel) (r : Rendered) : Channel :=
  { c with render := { c.render with dir := r.dir, sample := r.smp, srWalk := r.srWalk, srFilt := r.srFilt } }

/-- `GATE_OUT <- 1 if WSTATE != IDLE else 0` (42_tick.md R216). -/
def latchGate (c : Channel) : Channel :=
  { c with gateOut := !(c.render.wstate == .idle) }

/-- `LATCH(ch, smp)` (42_tick.md R216): the gate first, then the level, which a DIGITAL channel reads from the gate. -/
def latch (c : Channel) (smp : Byte) : Channel :=
  { latchGate c with levelOut := levelMap (latchGate c) smp }

/-- The channel step up to the start test (42_tick.md R204 to R206): ELAPSED counts, PEND is cleared. -/
def countTick (c : Channel) : Channel :=
  { c with render := { c.render with elapsed := satInc c.render.elapsed }, pend := false }

/-- The start action when a cycle starts. -/
def startStep (p : Params) (starts : Bool) (c : Channel) (rng : Word) : ChanRng :=
  if starts then startAction p c rng else ⟨c, rng⟩

/-- The renderer on the tick's final sub-state, and the latch (42_tick.md R216, R217). -/
def renderLatch (p : Params) (period d : Nat) (x : ChanRng) : ChanRng :=
  let r := render p x.chan x.chan.render.elapsed.toNat period d x.rng
  ⟨latch (storeRendered x.chan r) r.smp, r.rng⟩

/-- The step of an enabled channel whose period is not 0 (42_tick.md R201, from D on). -/
def enabledStep (p : Params) (g q : Nat) (c : Channel) (rng : Word) : ChanRng :=
  let x := startStep p (c.starts p g q) (countTick c) rng
  renderLatch p (c.period p q) (c.pulse p q) ⟨cutoffStep x.chan (c.pulse p q), x.rng⟩

/-- `CHANNEL_STEP(ch, G, Q)` (42_tick.md R201): the disabled path (R202), the zero-period guard (R203), or the enabled step. -/
def channelStep (p : Params) (g q : Nat) (c : Channel) (rng : Word) : ChanStep :=
  if c.par.outEn then
    if c.period p q = 0 then ⟨c, rng, true⟩
    else ⟨(enabledStep p g q c rng).chan, (enabledStep p g q c rng).rng, false⟩
  else ⟨disabledStep c, rng, false⟩

/-- The step of channel `ch` inside TICK, with the snapshots `G` and `Q` (42_tick.md R190). -/
def tickChannel (p : Params) (g q : Nat) (ch : Chan) (s : State) : State :=
  let x := channelStep p g q (s.chan ch) s.rng
  raiseZeroPeriod x.zper { s.setChan ch x.chan with rng := x.rng }

/-- The four channel steps in the order 0, 1, 2, 3 on one snapshot of GTICK and PPQN (42_tick.md R190). -/
def tickChannels (p : Params) (s : State) : State :=
  let g := s.gtick.toNat
  let q := s.ppqn.toNat
  tickChannel p g q 3 (tickChannel p g q 2 (tickChannel p g q 1 (tickChannel p g q 0 s)))

/-- `GTICK <- (GTICK + 1) mod 2^32` (42_tick.md R190). -/
def bumpGtick (s : State) : State := { s with gtick := s.gtick + 1 }

/-- TICK with the parameters `p` (42_tick.md R190). -/
def tickWith (p : Params) (s : State) : Host.Outcome State Fault Refusal := finish (bumpGtick (tickChannels p s))

/-- The effect of one external pulse on a channel (42_tick.md R221). -/
def extPulseChannel (p : Params) (c : Channel) : Channel :=
  if c.extDiv p then
    let r := (c.ratio p).den / (c.ratio p).num
    { c with
      pend := c.pend || c.extcnt.toNat % r == 0
      extcnt := BitVec.ofNat 7 ((c.extcnt.toNat + 1) % r) }
  else c

/-- EXT_PULSE with the parameters `p` (42_tick.md R221). -/
def extPulseWith (p : Params) (s : State) : Host.Outcome State Fault Refusal :=
  finish { s with chans := s.chans.map (extPulseChannel p) }

/-- TICK (42_tick.md R190). -/
def execTick (s : State) : Host.Outcome State Fault Refusal := tickWith defaultParams s

/-- EXT_PULSE (42_tick.md R221). -/
def execExtPulse (s : State) : Host.Outcome State Fault Refusal := extPulseWith defaultParams s

end Sys2Proof.Machine
end

