-- ==== Sys2Proof/Syntax.lean ====
section
/-! DEFINITION. The commands of CORE, one constructor per row of spec/opcode_table.json, with the operands of spec/30_encoding.md
R95 (the opcode map): `ch` the channel, `a` the word address, `d` the 16-bit DATA field as the word holds it. -/

namespace Sys2Proof

/-- The 29 commands (30_encoding.md R95). -/
inductive Instr where
  /-- NOP, opcode 0x00 (44_control.md R290). -/
  | nop
  /-- TICK, opcode 0x01 (42_tick.md R190). -/
  | tick
  /-- EXT_PULSE, opcode 0x02 (42_tick.md R221). -/
  | extPulse
  /-- PAUSE, opcode 0x03 (44_control.md R291). -/
  | pause
  /-- RESUME, opcode 0x04 (44_control.md R292). -/
  | resume
  /-- SET_PPQN, opcode 0x05 (44_control.md R294). -/
  | setPpqn (d : Half)
  /-- CLR_GTICK, opcode 0x06 (44_control.md R296). -/
  | clrGtick
  /-- SEED, opcode 0x07 (44_control.md R297). -/
  | seed (d : Half)
  /-- SET_DIV, opcode 0x10 (41_setters.md R151). -/
  | setDiv (ch : Chan) (d : Half)
  /-- SET_DUTY, opcode 0x11 (41_setters.md R152). -/
  | setDuty (ch : Chan) (d : Half)
  /-- SET_PHASE, opcode 0x12 (41_setters.md R153). -/
  | setPhase (ch : Chan) (d : Half)
  /-- SET_LEVEL, opcode 0x13 (41_setters.md R154). -/
  | setLevel (ch : Chan) (d : Half)
  /-- SET_OFFSET, opcode 0x14 (41_setters.md R155). -/
  | setOffset (ch : Chan) (d : Half)
  /-- SET_SWING_AMT, opcode 0x15 (41_setters.md R156). -/
  | setSwingAmt (ch : Chan) (d : Half)
  /-- SET_SWING_EVERY, opcode 0x16 (41_setters.md R157). -/
  | setSwingEvery (ch : Chan) (d : Half)
  /-- SET_PROB, opcode 0x17 (41_setters.md R158). -/
  | setProb (ch : Chan) (d : Half)
  /-- SET_EUC_EN, opcode 0x18 (41_setters.md R160). -/
  | setEucEn (ch : Chan) (d : Half)
  /-- SET_EUC_STEPS, opcode 0x19 (41_setters.md R159). -/
  | setEucSteps (ch : Chan) (d : Half)
  /-- SET_EUC_TRIG, opcode 0x1A (41_setters.md R161). -/
  | setEucTrig (ch : Chan) (d : Half)
  /-- SET_EUC_ROT, opcode 0x1B (41_setters.md R162). -/
  | setEucRot (ch : Chan) (d : Half)
  /-- SET_EUC_PAD, opcode 0x1C (41_setters.md R163). -/
  | setEucPad (ch : Chan) (d : Half)
  /-- SET_WAVE, opcode 0x1D (41_setters.md R165). -/
  | setWave (ch : Chan) (d : Half)
  /-- SET_OUT_EN, opcode 0x1E (41_setters.md R164). -/
  | setOutEn (ch : Chan) (d : Half)
  /-- SET_EXTCLK, opcode 0x1F (41_setters.md R166). -/
  | setExtclk (ch : Chan) (d : Half)
  /-- RD_OUT, opcode 0x20 (44_control.md R303). -/
  | rdOut (ch : Chan)
  /-- RD_PARAM, opcode 0x21 (44_control.md R304). -/
  | rdParam (ch : Chan) (a : BitVec 4)
  /-- RD_STATE, opcode 0x22 (44_control.md R305). -/
  | rdState (ch : Chan) (a : BitVec 4)
  /-- RD_RHYTHM, opcode 0x23 (44_control.md R306). -/
  | rdRhythm (ch : Chan) (a : BitVec 4)
  /-- RD_GLOBAL, opcode 0x24 (44_control.md R307). -/
  | rdGlobal (a : BitVec 4)
  deriving DecidableEq, Repr

end Sys2Proof
end

