-- ==== Sys2Proof/Machine/Dispatch.lean ====
section
/-! DEFINITION. The meaning of every command of CORE, one arm per constructor (spec/30_encoding.md R97). -/

namespace Sys2Proof.Machine

def exec (i : Instr) (s : State) : Host.Outcome State Fault Refusal :=
  match i with
  | .nop => Sys2Proof.Machine.execNop s
  | .tick => Sys2Proof.Machine.execTick s
  | .extPulse => Sys2Proof.Machine.execExtPulse s
  | .pause => Sys2Proof.Machine.execPause s
  | .resume => Sys2Proof.Machine.execResume s
  | .setPpqn d => Sys2Proof.Machine.execSetPpqn d s
  | .clrGtick => Sys2Proof.Machine.execClrGtick s
  | .seed d => Sys2Proof.Machine.execSeed d s
  | .setDiv ch d => Sys2Proof.Machine.execSetDiv ch d s
  | .setDuty ch d => Sys2Proof.Machine.execSetDuty ch d s
  | .setPhase ch d => Sys2Proof.Machine.execSetPhase ch d s
  | .setLevel ch d => Sys2Proof.Machine.execSetLevel ch d s
  | .setOffset ch d => Sys2Proof.Machine.execSetOffset ch d s
  | .setSwingAmt ch d => Sys2Proof.Machine.execSetSwingAmt ch d s
  | .setSwingEvery ch d => Sys2Proof.Machine.execSetSwingEvery ch d s
  | .setProb ch d => Sys2Proof.Machine.execSetProb ch d s
  | .setEucEn ch d => Sys2Proof.Machine.execSetEucEn ch d s
  | .setEucSteps ch d => Sys2Proof.Machine.execSetEucSteps ch d s
  | .setEucTrig ch d => Sys2Proof.Machine.execSetEucTrig ch d s
  | .setEucRot ch d => Sys2Proof.Machine.execSetEucRot ch d s
  | .setEucPad ch d => Sys2Proof.Machine.execSetEucPad ch d s
  | .setWave ch d => Sys2Proof.Machine.execSetWave ch d s
  | .setOutEn ch d => Sys2Proof.Machine.execSetOutEn ch d s
  | .setExtclk ch d => Sys2Proof.Machine.execSetExtclk ch d s
  | .rdOut ch => Sys2Proof.Machine.execRdOut ch s
  | .rdParam ch a => Sys2Proof.Machine.execRdParam ch a s
  | .rdState ch a => Sys2Proof.Machine.execRdState ch a s
  | .rdRhythm ch a => Sys2Proof.Machine.execRdRhythm ch a s
  | .rdGlobal a => Sys2Proof.Machine.execRdGlobal a s

end Sys2Proof.Machine
end

