-- ==== Sys2Proof/WellFormed.lean ====
section
/-! DEFINITION. Which commands are well formed: the word address of a read names an entry of the command's space
(spec/30_encoding.md R94, R96). Every other operand is legal by its type (a channel is 0..3, R93; DATA is any 16 bits). -/

namespace Sys2Proof

/-- RD_STATE takes addresses 0..8, RD_RHYTHM 0..3, RD_GLOBAL 0..6; RD_PARAM every address 0..15 (30_encoding.md R94). -/
def Instr.wf : Instr → Bool
  | .rdState _ a  => decide (a.toNat ≤ 8)
  | .rdRhythm _ a => decide (a.toNat ≤ 3)
  | .rdGlobal a   => decide (a.toNat ≤ 6)
  | .nop | .tick | .extPulse | .pause | .resume | .setPpqn _ | .clrGtick | .seed _ => true
  | .setDiv _ _ | .setDuty _ _ | .setPhase _ _ | .setLevel _ _ | .setOffset _ _ | .setSwingAmt _ _ => true
  | .setSwingEvery _ _ | .setProb _ _ | .setEucEn _ _ | .setEucSteps _ _ | .setEucTrig _ _ => true
  | .setEucRot _ _ | .setEucPad _ _ | .setWave _ _ | .setOutEn _ _ | .setExtclk _ _ => true
  | .rdOut _ | .rdParam _ _ => true

end Sys2Proof
end

