-- ==== Sys2Proof/Decode.lean ====
section
/-! DEFINITION. Decoding a 32-bit command word (spec/30_encoding.md R90 to R99), total on every word and rejecting by name, and
the encoder written from the same table of fields (R95, R96). CORE moves no bytes (20_memory.md R75): a command is one word. -/

namespace Sys2Proof

/-- Why a word is illegal (30_encoding.md R98, R99). Each makes the word raise ILLEGAL (60_exceptions.md R331). -/
inductive DecodeError where
  /-- The opcode is not in the opcode map (R98). -/
  | reservedOpcode
  /-- A field the command's form requires to be 0 is not 0 (R99). -/
  | nonzeroField
  /-- `CH >= N_CH` in a per-channel command (R99). -/
  | badChannel
  /-- ADDR lies outside the command's space (R99). -/
  | badAddress
  deriving DecidableEq, Repr

/-- `OPC`, bits 31:24 (30_encoding.md R90). -/
def fieldOpc (w : Word) : BitVec 8 := w.extractLsb' 24 8

/-- `CH`, bits 23:20. -/
def fieldCh (w : Word) : BitVec 4 := w.extractLsb' 20 4

/-- `ADDR`, bits 19:16. -/
def fieldAddr (w : Word) : BitVec 4 := w.extractLsb' 16 4

/-- `DATA`, bits 15:0. -/
def fieldData (w : Word) : Half := w.extractLsb' 0 16

/-- The channel a CH field names, when it is below `N_CH` (30_encoding.md R93). -/
def chanOf (c : BitVec 4) : Option Chan := if h : c.toNat < 4 then some ⟨c.toNat, h⟩ else none

/-- Form G0: CH, ADDR and DATA are 0 (30_encoding.md R96). -/
def formG0 (c a : BitVec 4) (d : Half) (i : Instr) : Except DecodeError Instr :=
  if c = 0 ∧ a = 0 ∧ d = 0 then .ok i else .error .nonzeroField

/-- Form GD: CH and ADDR are 0, DATA is any. -/
def formGD (c a : BitVec 4) (d : Half) (f : Half → Instr) : Except DecodeError Instr :=
  if c = 0 ∧ a = 0 then .ok (f d) else .error .nonzeroField

/-- Form CD: CH names a channel, ADDR is 0, DATA is any. -/
def formCD (c a : BitVec 4) (d : Half) (f : Chan → Half → Instr) : Except DecodeError Instr :=
  match chanOf c with
  | none => .error .badChannel
  | some ch => if a = 0 then .ok (f ch d) else .error .nonzeroField

/-- Form C0: CH names a channel, ADDR and DATA are 0. -/
def formC0 (c a : BitVec 4) (d : Half) (f : Chan → Instr) : Except DecodeError Instr :=
  match chanOf c with
  | none => .error .badChannel
  | some ch => if a = 0 ∧ d = 0 then .ok (f ch) else .error .nonzeroField

/-- Form CA: CH names a channel, ADDR is at most `last`, DATA is 0. -/
def formCA (last : Nat) (c a : BitVec 4) (d : Half) (f : Chan → BitVec 4 → Instr) : Except DecodeError Instr :=
  match chanOf c with
  | none => .error .badChannel
  | some ch => if a.toNat ≤ last then (if d = 0 then .ok (f ch a) else .error .nonzeroField) else .error .badAddress

/-- Form GA: CH is 0, ADDR is at most `last`, DATA is 0. -/
def formGA (last : Nat) (c a : BitVec 4) (d : Half) (f : BitVec 4 → Instr) : Except DecodeError Instr :=
  if c = 0 ∧ d = 0 then (if a.toNat ≤ last then .ok (f a) else .error .badAddress) else .error .nonzeroField

/-- Dispatch on the opcode (30_encoding.md R95) with the other three fields. -/
def decodeFields (o : BitVec 8) (c a : BitVec 4) (d : Half) : Except DecodeError Instr :=
  match o with
  | 0x00#8 => formG0 c a d .nop
  | 0x01#8 => formG0 c a d .tick
  | 0x02#8 => formG0 c a d .extPulse
  | 0x03#8 => formG0 c a d .pause
  | 0x04#8 => formG0 c a d .resume
  | 0x05#8 => formGD c a d .setPpqn
  | 0x06#8 => formG0 c a d .clrGtick
  | 0x07#8 => formGD c a d .seed
  | 0x10#8 => formCD c a d .setDiv
  | 0x11#8 => formCD c a d .setDuty
  | 0x12#8 => formCD c a d .setPhase
  | 0x13#8 => formCD c a d .setLevel
  | 0x14#8 => formCD c a d .setOffset
  | 0x15#8 => formCD c a d .setSwingAmt
  | 0x16#8 => formCD c a d .setSwingEvery
  | 0x17#8 => formCD c a d .setProb
  | 0x18#8 => formCD c a d .setEucEn
  | 0x19#8 => formCD c a d .setEucSteps
  | 0x1A#8 => formCD c a d .setEucTrig
  | 0x1B#8 => formCD c a d .setEucRot
  | 0x1C#8 => formCD c a d .setEucPad
  | 0x1D#8 => formCD c a d .setWave
  | 0x1E#8 => formCD c a d .setOutEn
  | 0x1F#8 => formCD c a d .setExtclk
  | 0x20#8 => formC0 c a d .rdOut
  | 0x21#8 => formCA 15 c a d .rdParam
  | 0x22#8 => formCA 8 c a d .rdState
  | 0x23#8 => formCA 3 c a d .rdRhythm
  | 0x24#8 => formGA 6 c a d .rdGlobal
  | _ => .error .reservedOpcode

/-- The command a word stands for, or why it is illegal (30_encoding.md R97). -/
def decode (w : Word) : Except DecodeError Instr :=
  decodeFields (fieldOpc w) (fieldCh w) (fieldAddr w) (fieldData w)

/-- The instruction a row of spec/opcode_table.json stands for: the low `nbits` bits of `w`, every bit above them 0, given to
`decode` as one command word. -/
def decodeTableWord (nbits w : Nat) : Option Instr :=
  match decode (BitVec.ofNat 32 (w % 2 ^ nbits)) with
  | .ok i => some i
  | .error _ => none

/-- The CH field that names a channel. -/
def chanField (ch : Chan) : BitVec 4 := BitVec.ofNat 4 ch.val

/-- A word from its four fields, the opcode in the most significant bits (30_encoding.md R90). -/
def wordOf (o : BitVec 8) (c a : BitVec 4) (d : Half) : Word :=
  (o ++ (c ++ (a ++ d) : BitVec 24) : BitVec 32)

/-- The word of a command (30_encoding.md R95, R96). -/
def encode : Instr → Word
  | .nop => wordOf 0x00 0 0 0
  | .tick => wordOf 0x01 0 0 0
  | .extPulse => wordOf 0x02 0 0 0
  | .pause => wordOf 0x03 0 0 0
  | .resume => wordOf 0x04 0 0 0
  | .setPpqn d => wordOf 0x05 0 0 d
  | .clrGtick => wordOf 0x06 0 0 0
  | .seed d => wordOf 0x07 0 0 d
  | .setDiv ch d => wordOf 0x10 (chanField ch) 0 d
  | .setDuty ch d => wordOf 0x11 (chanField ch) 0 d
  | .setPhase ch d => wordOf 0x12 (chanField ch) 0 d
  | .setLevel ch d => wordOf 0x13 (chanField ch) 0 d
  | .setOffset ch d => wordOf 0x14 (chanField ch) 0 d
  | .setSwingAmt ch d => wordOf 0x15 (chanField ch) 0 d
  | .setSwingEvery ch d => wordOf 0x16 (chanField ch) 0 d
  | .setProb ch d => wordOf 0x17 (chanField ch) 0 d
  | .setEucEn ch d => wordOf 0x18 (chanField ch) 0 d
  | .setEucSteps ch d => wordOf 0x19 (chanField ch) 0 d
  | .setEucTrig ch d => wordOf 0x1A (chanField ch) 0 d
  | .setEucRot ch d => wordOf 0x1B (chanField ch) 0 d
  | .setEucPad ch d => wordOf 0x1C (chanField ch) 0 d
  | .setWave ch d => wordOf 0x1D (chanField ch) 0 d
  | .setOutEn ch d => wordOf 0x1E (chanField ch) 0 d
  | .setExtclk ch d => wordOf 0x1F (chanField ch) 0 d
  | .rdOut ch => wordOf 0x20 (chanField ch) 0 0
  | .rdParam ch a => wordOf 0x21 (chanField ch) a 0
  | .rdState ch a => wordOf 0x22 (chanField ch) a 0
  | .rdRhythm ch a => wordOf 0x23 (chanField ch) a 0
  | .rdGlobal a => wordOf 0x24 0 a 0

end Sys2Proof
end

