-- ==== Sys2Proof/Machine/Port.lean ====
section
/-! DEFINITION. One command step over whatever executes a command (spec/00_scope.md R7, 20_memory.md R80, 30_encoding.md R97,
70_reset_and_hazards.md R360): the machine of Step.lean and every build of Build.lean are instances. -/

namespace Sys2Proof.Machine

/-- A presented command word: its command run by `run` when it is legal, else ILLEGAL (30_encoding.md R97, R101). -/
def runWordBy (run : Instr → State → Host.Outcome State Fault Refusal) (w : Word) (s : State) : Host.Outcome State Fault Refusal :=
  match decode w with
  | .ok i => run i s
  | .error _ => .next (raiseIllegal s)

/-- One command step: `rst = 1` resets and no command executes; else `cmd_valid = 1` executes `cmd`; else nothing changes. -/
def stepBy (p : Params) (run : Instr → State → Host.Outcome State Fault Refusal) (s : State) : Host.Outcome State Fault Refusal :=
  if s.presented.rst then .next (applyReset p s.consume)
  else if s.presented.cmdValid then runWordBy run s.presented.cmd s.consume
  else .next s.consume

end Sys2Proof.Machine
end

