-- ==== Sys2Proof/Machine/Step.lean ====
section
/-! DEFINITION. One command step of CORE (spec/00_scope.md R7, 20_memory.md R80, 70_reset_and_hazards.md R360), and the presentation
of a command word at its port. CORE fetches nothing (10_state.md R31): the next port values stand at the head of
`State.inputs` (notes/assumptions/1). -/

namespace Sys2Proof.Machine

/-- A presented command word: `exec` of its command when it is legal, else ILLEGAL (30_encoding.md R97, R101). -/
def runWord (w : Word) (s : State) : Host.Outcome State Fault Refusal := runWordBy exec w s

/-- One command step of the build with the default parameters (notes/assumptions/2). -/
def step (s : State) : Host.Outcome State Fault Refusal := stepBy defaultParams exec s

/-- The state with the table instruction whose bits are `w` presented at the next command step (notes/assumptions/1). -/
def State.withFetchWord (s : State) (nbits w : Nat) : State := s.present (BitVec.ofNat 32 (w % 2 ^ nbits))

end Sys2Proof.Machine
end

