-- ==== Sys2Proof/Machine/Assembler.lean ====
section
/-! DEFINITION. The host's side of the command set: the textual form of a command and the assembly of its value (spec/30_encoding.md
R102), the pseudo-instructions (R103) and the restore sequence of a saved channel (70_reset_and_hazards.md R378). CORE itself
never sees text. -/

namespace Sys2Proof.Machine

/-- The DATA field an assembler writes for a value, which it refuses outside `-32768..65535` (30_encoding.md R102). -/
def asmValue (v : Int) : Option Half := if -32768 ≤ v ∧ v ≤ 65535 then some (BitVec.ofInt 16 v) else none

/-- The DATA field of SEED: negative values are refused too (30_encoding.md R102). -/
def asmSeed (v : Int) : Option Half := if v < 0 then none else asmValue v

/-- The text of a mnemonic with one operand. -/
def text1 (m : String) (x : String) : String := m ++ " " ++ x

/-- The text of a mnemonic with a channel and a second operand. -/
def text2 (m : String) (ch : Chan) (x : String) : String := m ++ " " ++ toString ch.val ++ ", " ++ x

/-- The textual form of a command (30_encoding.md R102): the mnemonic, then the channel, then the address or the decimal value. -/
def instrText : Instr → String
  | .nop => "NOP"
  | .tick => "TICK"
  | .extPulse => "EXT_PULSE"
  | .pause => "PAUSE"
  | .resume => "RESUME"
  | .setPpqn d => text1 "SET_PPQN" (toString (sext16 d))
  | .clrGtick => "CLR_GTICK"
  | .seed d => text1 "SEED" (toString (zext16 d))
  | .setDiv ch d => text2 "SET_DIV" ch (toString (sext16 d))
  | .setDuty ch d => text2 "SET_DUTY" ch (toString (sext16 d))
  | .setPhase ch d => text2 "SET_PHASE" ch (toString (sext16 d))
  | .setLevel ch d => text2 "SET_LEVEL" ch (toString (sext16 d))
  | .setOffset ch d => text2 "SET_OFFSET" ch (toString (sext16 d))
  | .setSwingAmt ch d => text2 "SET_SWING_AMT" ch (toString (sext16 d))
  | .setSwingEvery ch d => text2 "SET_SWING_EVERY" ch (toString (sext16 d))
  | .setProb ch d => text2 "SET_PROB" ch (toString (sext16 d))
  | .setEucEn ch d => text2 "SET_EUC_EN" ch (toString (sext16 d))
  | .setEucSteps ch d => text2 "SET_EUC_STEPS" ch (toString (sext16 d))
  | .setEucTrig ch d => text2 "SET_EUC_TRIG" ch (toString (sext16 d))
  | .setEucRot ch d => text2 "SET_EUC_ROT" ch (toString (sext16 d))
  | .setEucPad ch d => text2 "SET_EUC_PAD" ch (toString (sext16 d))
  | .setWave ch d => text2 "SET_WAVE" ch (toString (sext16 d))
  | .setOutEn ch d => text2 "SET_OUT_EN" ch (toString (sext16 d))
  | .setExtclk ch d => text2 "SET_EXTCLK" ch (toString (sext16 d))
  | .rdOut ch => text1 "RD_OUT" (toString ch.val)
  | .rdParam ch a => text2 "RD_PARAM" ch (toString a.toNat)
  | .rdState ch a => text2 "RD_STATE" ch (toString a.toNat)
  | .rdRhythm ch a => text2 "RD_RHYTHM" ch (toString a.toNat)
  | .rdGlobal a => text1 "RD_GLOBAL" (toString a.toNat)

/-- The pseudo-instructions (30_encoding.md R103), values as assembled DATA fields. -/
inductive Pseudo where
  | ticks (n : Nat)
  | euclid (ch : Chan) (n k r p : Half)
  | rdGtick
  | rdRng
  | rdElapsed (ch : Chan)
  | loadCh (ch : Chan) (div duty phase level offset swamt swevery prob wave ext : Half)
  deriving DecidableEq, Repr

/-- The expansion of a pseudo-instruction, in order (30_encoding.md R103). -/
def expandPseudo : Pseudo → List Instr
  | .ticks n => List.replicate n .tick
  | .euclid ch n k r p => [.setEucSteps ch n, .setEucPad ch p, .setEucTrig ch k, .setEucRot ch r, .setEucEn ch 1]
  | .rdGtick => [.rdGlobal 1, .rdGlobal 2]
  | .rdRng => [.rdGlobal 5, .rdGlobal 6]
  | .rdElapsed ch => [.rdState ch 1, .rdState ch 2]
  | .loadCh ch div duty phase level offset swamt swevery prob wave ext =>
    [.setExtclk ch 0, .setDiv ch div, .setExtclk ch ext, .setDuty ch duty, .setPhase ch phase, .setLevel ch level] ++
    [.setOffset ch offset, .setSwingAmt ch swamt, .setSwingEvery ch swevery, .setProb ch prob, .setWave ch wave]

/-- The restore sequence of a saved channel (70_reset_and_hazards.md R378), the saved values as RD_PARAM reads them. -/
def restoreSequence (ch : Chan) (r : ParamRegs) : List Instr :=
  [.setExtclk ch 0, .setDiv ch (readParam r 0), .setExtclk ch (readParam r 15)] ++
  [.setDuty ch (readParam r 1), .setPhase ch (readParam r 2), .setLevel ch (readParam r 3), .setOffset ch (readParam r 4)] ++
  [.setSwingAmt ch (readParam r 5), .setSwingEvery ch (readParam r 6), .setProb ch (readParam r 7)] ++
  [.setEucEn ch 0, .setEucSteps ch (readParam r 9), .setEucTrig ch (readParam r 10), .setEucRot ch (readParam r 11)] ++
  [.setEucPad ch (readParam r 12), .setEucEn ch (readParam r 8), .setWave ch (readParam r 13), .setOutEn ch (readParam r 14)]

end Sys2Proof.Machine
end

