-- ==== Sys2Proof/Machine/Build.lean ====
section
/-! DEFINITION. CORE built with any parameters (spec/00_scope.md R10: "A model takes each as an argument"): what a command, a command
step and the whole machine do in the build `p`. The build with the defaults is the machine of Step.lean (Laws/Ops.lean).
DESIGN CHOICE (notes/assumptions/18): the spec does not specify CORE with parameters that break 42_tick.md R199 and lets a model
reject them. This model rejects none and runs the pseudocode on them. `Params.Legal` names the builds the spec describes. -/

namespace Sys2Proof.Machine

/-- The meaning of a command in the build with the parameters `p`. Four commands read a parameter; every other one has its one
meaning in each build. For parameters that are not `Params.Legal` the outcome is the model's choice (notes/assumptions/18). -/
def execWith (p : Params) (i : Instr) (s : State) : Host.Outcome State Fault Refusal :=
  match i with
  | .tick => tickWith p s
  | .extPulse => extPulseWith p s
  | .setDiv ch d => setDivWith p ch d s
  | .setSwingAmt ch d => setSwingAmtWith p ch d s
  | .nop | .pause | .resume | .setPpqn _ | .clrGtick | .seed _ => exec i s
  | .setDuty _ _ | .setPhase _ _ | .setLevel _ _ | .setOffset _ _ | .setSwingEvery _ _ | .setProb _ _ => exec i s
  | .setEucEn _ _ | .setEucSteps _ _ | .setEucTrig _ _ | .setEucRot _ _ | .setEucPad _ _ => exec i s
  | .setWave _ _ | .setOutEn _ _ | .setExtclk _ _ => exec i s
  | .rdOut _ | .rdParam _ _ | .rdState _ _ | .rdRhythm _ _ | .rdGlobal _ => exec i s

/-- One command step in the build with the parameters `p`, legal or not (notes/assumptions/18). -/
def stepWith (p : Params) (s : State) : Host.Outcome State Fault Refusal := stepBy p (execWith p) s

/-- The build of CORE with the parameters `p`, its reset state the one with those parameters. It describes CORE for `Params.Legal`
parameters alone; that other parameters are not rejected is the model's choice (notes/assumptions/18). -/
def coreWith (p : Params) : Host.Core where
  State   := State
  Fault   := Fault
  Refusal := Refusal
  step    := stepWith p
  reset   := State.resetWith p

end Sys2Proof.Machine
end

