-- ==== Sys2Proof/Safety.lean ====
section
/-! DEFINITION. The terms in which claims about CORE are made: which words are legal (spec/30_encoding.md R96), runs of commands,
states after a setter, and the invariant of the machine (10_state.md R34 to R53). -/

namespace Sys2Proof

/-- The sixteen setters (41_setters.md), by the channel they write. -/
def Instr.setterChan : Instr → Option Chan
  | .setDiv ch _ | .setDuty ch _ | .setPhase ch _ | .setLevel ch _ | .setOffset ch _ | .setSwingAmt ch _ => some ch
  | .setSwingEvery ch _ | .setProb ch _ | .setEucEn ch _ | .setEucSteps ch _ | .setEucTrig ch _ => some ch
  | .setEucRot ch _ | .setEucPad ch _ | .setWave ch _ | .setOutEn ch _ | .setExtclk ch _ => some ch
  | .nop | .tick | .extPulse | .pause | .resume | .setPpqn _ | .clrGtick | .seed _ => none
  | .rdOut _ | .rdParam _ _ | .rdState _ _ | .rdRhythm _ _ | .rdGlobal _ => none

/-- The five read commands (44_control.md section 2). -/
def Instr.isRead : Instr → Bool
  | .rdOut _ | .rdParam _ _ | .rdState _ _ | .rdRhythm _ _ | .rdGlobal _ => true
  | .nop | .tick | .extPulse | .pause | .resume | .setPpqn _ | .clrGtick | .seed _ => false
  | .setDiv _ _ | .setDuty _ _ | .setPhase _ _ | .setLevel _ _ | .setOffset _ _ | .setSwingAmt _ _ => false
  | .setSwingEvery _ _ | .setProb _ _ | .setEucEn _ _ | .setEucSteps _ _ | .setEucTrig _ _ => false
  | .setEucRot _ _ | .setEucPad _ _ | .setWave _ _ | .setOutEn _ _ | .setExtclk _ _ => false

/-- The command is SET_OUT_EN. -/
def Instr.isSetOutEn : Instr → Bool
  | .setOutEn _ _ => true
  | .nop | .tick | .extPulse | .pause | .resume | .setPpqn _ | .clrGtick | .seed _ => false
  | .setDiv _ _ | .setDuty _ _ | .setPhase _ _ | .setLevel _ _ | .setOffset _ _ | .setSwingAmt _ _ => false
  | .setSwingEvery _ _ | .setProb _ _ | .setEucEn _ _ | .setEucSteps _ _ | .setEucTrig _ _ => false
  | .setEucRot _ _ | .setEucPad _ _ | .setWave _ _ | .setExtclk _ _ => false
  | .rdOut _ | .rdParam _ _ | .rdState _ _ | .rdRhythm _ _ | .rdGlobal _ => false

end Sys2Proof

namespace Sys2Proof.Machine

/-- A word is legal (30_encoding.md R96), field by field in the words of that rule's table: forms G0, GD, CD, C0, CA, GA. -/
def LegalWord (w : Word) : Prop :=
  let o := w.toNat / 2 ^ 24
  let c := w.toNat / 2 ^ 20 % 16
  let a := w.toNat / 2 ^ 16 % 16
  let d := w.toNat % 2 ^ 16
  (o ∈ [0x00, 0x01, 0x02, 0x03, 0x04, 0x06] ∧ c = 0 ∧ a = 0 ∧ d = 0) ∨
  (o ∈ [0x05, 0x07] ∧ c = 0 ∧ a = 0) ∨
  (0x10 ≤ o ∧ o ≤ 0x1F ∧ c ≤ 3 ∧ a = 0) ∨
  (o = 0x20 ∧ c ≤ 3 ∧ a = 0 ∧ d = 0) ∨
  (((o = 0x21 ∧ a ≤ 15) ∨ (o = 0x22 ∧ a ≤ 8) ∨ (o = 0x23 ∧ a ≤ 3)) ∧ c ≤ 3 ∧ d = 0) ∨
  (o = 0x24 ∧ c = 0 ∧ a ≤ 6 ∧ d = 0)

/-- The commands of a list executed in order (20_memory.md R80). -/
def execAll : List Instr → State → Host.Outcome State Fault Refusal
  | [], s => .next s
  | i :: is, s =>
    match exec i s with
    | .next t => execAll is t
    | .fault r => .fault r
    | .refused r => .refused r

/-- `s` after a setter that wrote the parameter registers of channel `ch` as `r` and nothing else: `rdata` is 0. -/
def State.afterPar (s : State) (ch : Chan) (r : ParamRegs) : State :=
  { s with rdata := 0, chans := s.chans.set ch { s.chan ch with par := r } }

/-- `s` after a setter that left channel `ch` as `c` and nothing else changed: `rdata` is 0. -/
def State.afterChan (s : State) (ch : Chan) (c : Channel) : State :=
  { s with rdata := 0, chans := s.chans.set ch c }

/-- Every parameter register lies in its legal range (10_state.md R39, R40). -/
structure ParamRegs.Legal (p : Params) (r : ParamRegs) : Prop where
  div          : r.div.toNat < p.nDiv
  duty_pos     : 1 ≤ r.duty.toNat
  duty_le      : r.duty.toNat ≤ 99
  phase_le     : r.phase.toNat ≤ 100
  level_le     : r.level.toNat ≤ 100
  offset_le    : r.offset.toNat ≤ 100
  swingAmt     : r.swingAmt.toNat < p.swingN
  every_pos    : 1 ≤ r.swingEvery.toNat
  every_le     : r.swingEvery.toNat ≤ 16
  prob_le      : r.prob.toNat ≤ 100
  steps_pos    : 1 ≤ r.eucSteps.toNat
  steps_le     : r.eucSteps.toNat ≤ 64
  trig_pos     : 1 ≤ r.eucTrig.toNat
  trig_le      : r.eucTrig.toNat ≤ r.eucSteps.toNat
  rot_le       : r.eucRot.toNat ≤ r.eucSteps.toNat - 1
  len_le       : r.eucSteps.toNat + r.eucPad.toNat ≤ 64

/-- The invariant of channel `ch`: its identity is hardwired (10_state.md R38), its parameters are legal (R39, R40), it is off
during a master pause (44_control.md R291), while EUC_EN = 1 its cursor is in range and RHYTHM is the pattern of the current
parameters (10_state.md R43, 40_euclid.md R128), SR_FILT is at most 0xFF00 (10_state.md R49), the gate is high exactly in a
sub-state other than IDLE (42_tick.md R216), an IDLE channel has the sample 0 and the direction 0 (43_waveform.md R242),
and a DIGITAL channel's level is 255 or 0 with the gate (10_state.md R53). -/
structure Channel.Inv (p : Params) (ch : Chan) (paused : Bool) (c : Channel) : Prop where
  chId        : c.chId.toNat = ch.val
  kind        : c.kind = p.chKind ch
  par         : c.par.Legal p
  pausedOff   : paused = true → c.par.outEn = false
  cursor      : c.par.eucEn = true → c.cursor.toNat < c.par.seqLen
  rhythm      : c.par.eucEn = true → c.rhythm = c.par.pattern
  srFilt      : c.render.srFilt.toNat ≤ 0xFF00
  gate        : c.gateOut = true ↔ c.render.wstate ≠ .idle
  idleSample  : c.render.wstate = .idle → c.render.sample = 0 ∧ c.render.dir = false
  digital     : c.kind = .digital → c.levelOut = if c.gateOut then 255 else 0

/-- The invariant of CORE: PPQN in range (10_state.md R34), RNG never 0 (R35), and every channel's invariant. -/
structure State.Inv (p : Params) (s : State) : Prop where
  ppqn_pos : 1 ≤ s.ppqn.toNat
  ppqn_le  : s.ppqn.toNat ≤ 32767
  rng      : s.rng ≠ 0
  chan     : ∀ ch : Chan, (s.chan ch).Inv p ch s.paused

/-- The number of draws of one enabled channel step with a period (42_tick.md R228): the probability gate's at a start with
EUC_EN = 0, SAMPLE_HOLD's at a firing start, and the renderer's for RANDOM and SMOOTH_RANDOM when the final sub-state is not
IDLE. -/
def drawCount (start euc fire : Bool) (wave : Shape) (final : WState) : Nat :=
  (if start && !euc then 1 else 0) +
  (if start && fire && wave == .sampleHold then 1 else 0) +
  (if (wave == .random || wave == .smoothRandom) && !(final == .idle) then 1 else 0)

/-- The word `w` is the command `i`'s: `encode i` is `w`, and `w` alone decodes to `i` (30_encoding.md R95, R96). -/
def CommandWord (i : Instr) (w : Word) : Prop := encode i = w ∧ ∀ v : Word, decode v = .ok i ↔ v = w

/-- The setter `i` with opcode `o` on channel `ch` with DATA `d`: its word is the one of form CD (30_encoding.md R96). -/
def SetterWord (i : Instr) (o : BitVec 8) (ch : Chan) (d : Half) : Prop := CommandWord i (wordOf o (chanField ch) 0 d)

/-- Of the words with opcode `o`, exactly those that meet `p` are legal; every other one is ILLEGAL (30_encoding.md R99). -/
def LegalWords (o : BitVec 8) (p : Word → Prop) : Prop := ∀ w : Word, fieldOpc w = o → ((∃ i, decode w = .ok i) ↔ p w)

/-- What REGEN (40_euclid.md R127) leaves of channel `c` once its parameter registers are `r`: RHYTHM the pattern of `r`, CURSOR 0
when it lies outside the new sequence. -/
def Channel.regenerated (c : Channel) (r : ParamRegs) : Channel :=
  { c with
    par := r
    rhythm := gen r.eucSteps.toNat r.eucTrig.toNat r.eucRot.toNat r.eucPad.toNat
    cursor := if r.eucSteps.toNat + r.eucPad.toNat ≤ c.cursor.toNat then 0 else c.cursor }

/-- A Euclidean setter that left the parameter registers as `r`: REGEN ran exactly when EUC_EN = 1 (40_euclid.md R128). -/
def Channel.afterEuc (c : Channel) (r : ParamRegs) : Channel :=
  if r.eucEn then c.regenerated r else { c with par := r }

end Sys2Proof.Machine
end

