-- ==== Sys2Proof/Certificates/Slice0/Obligations.lean ====
section
/-! DEFINITION. The statements about CORE for the provers (OBLIGATIONS.json lists them). Each docstring names the rule of spec/ it
formalises. -/

open Sys2Proof Sys2Proof.Machine

/-! ### Encoding and the command step -/

/-- Decode and encode agree: every well-formed command's word decodes to that command (30_encoding.md R95, R96). -/
def Obligations.DecodeOfEncodeIsTheCommand : Prop :=
  ∀ i : Instr, i.wf = true → decode (encode i) = .ok i

/-- Each legal word has one meaning: a word that decodes to a command is that command's own word, and the command is well formed
(30_encoding.md R91, R96). -/
def Obligations.EncodeOfDecodeIsTheWord : Prop :=
  ∀ (w : Word) (i : Instr), decode w = .ok i → encode i = w ∧ i.wf = true

/-- A word decodes exactly when it is legal by the table of 30_encoding.md R96. -/
def Obligations.DecodesExactlyTheLegalWords : Prop :=
  ∀ w : Word, (∃ i, decode w = .ok i) ↔ LegalWord w

/-- The example words of 30_encoding.md R102 decode to the commands they are written for, and a few illegal words of
95_test_vectors.md section 7 are refused. -/
def Obligations.ExampleWordsDecode : Prop :=
  decode 0x01000000 = .ok .tick ∧ decode 0x05000018 = .ok (.setPpqn 24) ∧ decode 0x11200019 = .ok (.setDuty 2 25) ∧
  decode 0x20100000 = .ok (.rdOut 1) ∧ decode 0x22310000 = .ok (.rdState 3 1) ∧ decode 0x24030000 = .ok (.rdGlobal 3) ∧
  decode 0x08000000 = .error .reservedOpcode ∧ decode 0x01000001 = .error .nonzeroField ∧
  decode 0x10400005 = .error .badChannel ∧ decode 0x22090000 = .error .badAddress

/-- A step runs the decoded command: with `rst = 0`, `cmd_valid = 1` and a word that decodes to a well-formed command `i`, the
step is `exec i` on the state with those port values taken; with any word it runs that word, legal or not (00_scope.md R7,
20_memory.md R80). That the port values stand in `inputs` is the model's choice (notes/assumptions/1). -/
def Obligations.StepRunsTheDecodedCommand : Prop :=
  (∀ (s : State) (w : Word) (rest : List PortIn) (i : Instr),
    s.inputs = ⟨false, true, w⟩ :: rest → decode w = .ok i → i.wf = true →
    step s = exec i { s with inputs := rest }) ∧
  (∀ (s : State) (w : Word) (rest : List PortIn),
    s.inputs = ⟨false, true, w⟩ :: rest → step s = runWord w { s with inputs := rest })

/-- An illegal word sets STATUS.ILL and clears rdata, and writes no other state (30_encoding.md R101). -/
def Obligations.IllegalWordSetsIllOnly : Prop :=
  ∀ (s : State) (w : Word), ¬ LegalWord w →
    runWord w s = .next { s with status := { s.status with ill := true }, rdata := 0 }

/-- With `cmd_valid = 0` and `rst = 0`, or nothing presented, a step changes nothing of CORE (00_scope.md R7).
That the port values stand in `inputs` is the model's choice (notes/assumptions/1). -/
def Obligations.InvalidCommandChangesNothing : Prop :=
  ∀ s : State,
    (s.inputs = [] → step s = .next s) ∧
    (∀ w rest, s.inputs = ⟨false, false, w⟩ :: rest → step s = .next { s with inputs := rest })

/-- A step with `rst = 1` executes no command and gives every state element its reset value, the hardwired CH_ID and KIND of each
channel apart, which stay (70_reset_and_hazards.md R360, 10_state.md R38). That the port values stand in `inputs`, and that the
ones still to come stay there, is the model's choice (notes/assumptions/1). -/
def Obligations.ResetStepGivesResetState : Prop :=
  ∀ (s : State) (v : Bool) (w : Word) (rest : List PortIn),
    s.inputs = ⟨true, v, w⟩ :: rest →
    ∃ t, step s = .next t ∧
      t = { State.reset with chans := t.chans, inputs := rest } ∧
      ∀ ch, t.chan ch = { State.reset.chan ch with chId := (s.chan ch).chId, kind := (s.chan ch).kind }

/-- The reset state, complete (70_reset_and_hazards.md R361): every value of its two tables, the invariants of 10_state.md R40, and
RHYTHM the pattern of the reset Euclidean parameters. -/
def Obligations.ResetStateValues : Prop :=
  State.reset.gtick = 0 ∧ State.reset.ppqn = 96 ∧ State.reset.rng = 0x00000001 ∧ State.reset.status = ⟨false, false⟩ ∧
  State.reset.paused = false ∧ State.reset.rdata = 0 ∧
  ∀ ch : Chan,
    State.reset.chan ch =
      { chId := BitVec.ofNat 2 ch.val
        kind := if ch.val < 2 then .digital else .analog
        par :=
          { div := 8, duty := 50, phase := 0, level := 100, offset := 0, swingAmt := 0, swingEvery := 2, prob := 100,
            eucEn := false, eucSteps := 16, eucTrig := 4, eucRot := 0, eucPad := 0, wave := .gate, outEn := true, ext := false }
        prevEn := true
        rhythm := 0x0000000000001111
        cursor := 0
        render := { wstate := .idle, elapsed := 0, sample := 0, dir := false, shHold := 0, srWalk := 128, srFilt := 0x8000 }
        pend := false
        extcnt := 0
        gateOut := false
        levelOut := 0 } ∧
    (State.reset.chan ch).par.eucTrig.toNat ≤ (State.reset.chan ch).par.eucSteps.toNat ∧
    (State.reset.chan ch).par.eucRot.toNat ≤ (State.reset.chan ch).par.eucSteps.toNat - 1 ∧
    (State.reset.chan ch).par.eucSteps.toNat + (State.reset.chan ch).par.eucPad.toNat ≤ 64 ∧
    (State.reset.chan ch).rhythm = gen 16 4 0 0

/-- CORE takes no traps and never stops: every step answers a next state, and so does every command (60_exceptions.md R330). -/
def Obligations.NothingStopsTheMachine : Prop :=
  (∀ s : State, ∃ t, step s = .next t) ∧ (∀ (i : Instr) (s : State), ∃ t, exec i s = .next t)

/-! ### The invariant -/

/-- The invariant (legal registers, hardwired identity, cursor and RHYTHM while EUC_EN = 1, latches in step with the sub-state)
holds after reset (10_state.md R34 to R53), and after the reset of every legal build (00_scope.md R10). -/
def Obligations.ResetKeepsTheMachineInvariant : Prop :=
  State.Inv defaultParams State.reset ∧ ∀ p : Params, p.Legal → State.Inv p (State.resetWith p)

/-- Every command step keeps the invariant (10_state.md R34 to R53: no register ever holds a value outside its legal range;
40_euclid.md R128: RHYTHM is the pattern of the current parameters whenever EUC_EN = 1). So does every command step of every
legal build, with the ranges that its own parameters give (00_scope.md R10, 42_tick.md R199). -/
def Obligations.EveryStepKeepsTheMachineInvariant : Prop :=
  (∀ s t : State, State.Inv defaultParams s → step s = .next t → State.Inv defaultParams t) ∧
  (∀ (p : Params) (s t : State), p.Legal → State.Inv p s → stepWith p s = .next t → State.Inv p t)

/-- With ANY legal parameters (00_scope.md R10, 42_tick.md R199), the commands that read a parameter keep the invariant. -/
def Obligations.ParameterCommandsKeepInvariantForAnyLegalParams : Prop :=
  ∀ (p : Params) (s t : State), p.Legal → State.Inv p s →
    (tickWith p s = .next t ∨ extPulseWith p s = .next t ∨ (∃ ch d, setDivWith p ch d s = .next t) ∨
      (∃ ch d, setSwingAmtWith p ch d s = .next t)) →
    State.Inv p t

/-- The default parameters meet every constraint of the spec: the tables of 42_tick.md R199, RNG_STEP of R226 mapping only 0 to 0,
SINE_WARP the properties (a) to (d) of 43_waveform.md R250. That `sineWarpDefault` is the reference formula is deduced
(notes/assumptions/3). -/
def Obligations.DefaultParamsAreLegal : Prop := Params.Legal defaultParams

/-! ### The setters -/

/-- SET_DUTY, SET_PHASE, SET_LEVEL, SET_OFFSET, SET_SWING_EVERY and SET_PROB write the clamped operand into their one register of
the channel, set rdata to 0 and change nothing else (41_setters.md R152, R153, R154, R155, R157, R158). -/
def Obligations.RangeSettersClampTheirRegister : Prop :=
  ∀ (ch : Chan) (d : Half) (s : State),
    (∃ x : BitVec 7, (x.toNat : Int) = max 1 (min 99 d.toInt) ∧ SetterWord (.setDuty ch d) 0x11 ch d ∧
      exec (.setDuty ch d) s = .next (s.afterPar ch { (s.chan ch).par with duty := x })) ∧
    (∃ x : BitVec 7, (x.toNat : Int) = max 0 (min 100 d.toInt) ∧ SetterWord (.setPhase ch d) 0x12 ch d ∧
      exec (.setPhase ch d) s = .next (s.afterPar ch { (s.chan ch).par with phase := x })) ∧
    (∃ x : BitVec 7, (x.toNat : Int) = max 0 (min 100 d.toInt) ∧ SetterWord (.setLevel ch d) 0x13 ch d ∧
      exec (.setLevel ch d) s = .next (s.afterPar ch { (s.chan ch).par with level := x })) ∧
    (∃ x : BitVec 7, (x.toNat : Int) = max 0 (min 100 d.toInt) ∧ SetterWord (.setOffset ch d) 0x14 ch d ∧
      exec (.setOffset ch d) s = .next (s.afterPar ch { (s.chan ch).par with offset := x })) ∧
    (∃ x : BitVec 5, (x.toNat : Int) = max 1 (min 16 d.toInt) ∧ SetterWord (.setSwingEvery ch d) 0x16 ch d ∧
      exec (.setSwingEvery ch d) s = .next (s.afterPar ch { (s.chan ch).par with swingEvery := x })) ∧
    (∃ x : BitVec 7, (x.toNat : Int) = max 0 (min 100 d.toInt) ∧ SetterWord (.setProb ch d) 0x17 ch d ∧
      exec (.setProb ch d) s = .next (s.afterPar ch { (s.chan ch).par with prob := x }))

/-- SET_DIV clamps to `0..14`, to `8..14` while EXT = 1; SET_SWING_AMT to `0..6`: the default tables' last indices. Nothing else
changes but rdata, which is 0 (41_setters.md R151, R156). The tables are the defaults (notes/assumptions/2). -/
def Obligations.TableSettersClampTheirIndex : Prop :=
  ∀ (ch : Chan) (d : Half) (s : State),
    (∃ x : BitVec 4, (x.toNat : Int) = max (if (s.chan ch).par.ext then 8 else 0) (min 14 d.toInt) ∧
      SetterWord (.setDiv ch d) 0x10 ch d ∧
      exec (.setDiv ch d) s = .next (s.afterPar ch { (s.chan ch).par with div := x })) ∧
    (∃ x : BitVec 3, (x.toNat : Int) = max 0 (min 6 d.toInt) ∧ SetterWord (.setSwingAmt ch d) 0x15 ch d ∧
      exec (.setSwingAmt ch d) s = .next (s.afterPar ch { (s.chan ch).par with swingAmt := x }))

/-- SET_WAVE selects the shape with the clamped code, and leaves the render state as it was (41_setters.md R165). -/
def Obligations.SetWaveSelectsTheClampedShape : Prop :=
  ∀ (ch : Chan) (d : Half) (s : State),
    ∃ sh : Shape, (sh.code : Int) = max 0 (min 9 d.toInt) ∧ SetterWord (.setWave ch d) 0x1D ch d ∧
      exec (.setWave ch d) s = .next (s.afterPar ch { (s.chan ch).par with wave := sh })

/-- SET_OUT_EN writes the snapshot PREV_EN during a master pause and OUT_EN otherwise; a positive operand is 1, any other 0
(41_setters.md R164). -/
def Obligations.SetOutEnGoesToSnapshotWhilePaused : Prop :=
  ∀ (ch : Chan) (d : Half) (s : State),
    SetterWord (.setOutEn ch d) 0x1E ch d ∧
    exec (.setOutEn ch d) s = .next
      (if s.paused then s.afterChan ch { s.chan ch with prevEn := decide (0 < d.toInt) }
       else s.afterPar ch { (s.chan ch).par with outEn := decide (0 < d.toInt) })

/-- SET_EXTCLK writes EXT; EXTCNT and PEND become 0 exactly when EXT changes; DIV is not clamped again (41_setters.md R166). -/
def Obligations.SetExtclkClearsCounterOnChange : Prop :=
  ∀ (ch : Chan) (d : Half) (s : State),
    SetterWord (.setExtclk ch d) 0x1F ch d ∧
    exec (.setExtclk ch d) s = .next
      (s.afterChan ch
        { s.chan ch with
          par := { (s.chan ch).par with ext := decide (0 < d.toInt) }
          extcnt := if decide (0 < d.toInt) = (s.chan ch).par.ext then (s.chan ch).extcnt else 0
          pend := if decide (0 < d.toInt) = (s.chan ch).par.ext then (s.chan ch).pend else false })

/-- SET_EUC_EN writes EUC_EN and runs REGEN only when the flag goes from 0 to 1 (41_setters.md R160). -/
def Obligations.SetEucEnRegeneratesOnlyOnEnable : Prop :=
  ∀ (ch : Chan) (d : Half) (s : State),
    SetterWord (.setEucEn ch d) 0x18 ch d ∧
    exec (.setEucEn ch d) s = .next
      (if (s.chan ch).par.eucEn = false ∧ 0 < d.toInt then
        s.afterChan ch ((s.chan ch).regenerated { (s.chan ch).par with eucEn := true })
       else s.afterPar ch { (s.chan ch).par with eucEn := decide (0 < d.toInt) })

/-- SET_EUC_STEPS clamps the steps to `1..64`, lowers triggers, rotation and pad to fit them, never raises them, and runs REGEN
exactly when EUC_EN = 1 (41_setters.md R159). -/
def Obligations.SetEucStepsLowersDependentFields : Prop :=
  ∀ (ch : Chan) (d : Half) (s : State),
    ∃ (n k p : BitVec 7) (r : BitVec 6),
      (n.toNat : Int) = max 1 (min 64 d.toInt) ∧
      k.toNat = min (s.chan ch).par.eucTrig.toNat n.toNat ∧
      r.toNat = min (s.chan ch).par.eucRot.toNat (n.toNat - 1) ∧
      p.toNat = min (s.chan ch).par.eucPad.toNat (64 - n.toNat) ∧
      SetterWord (.setEucSteps ch d) 0x19 ch d ∧
      exec (.setEucSteps ch d) s = .next
        (s.afterChan ch
          ((s.chan ch).afterEuc { (s.chan ch).par with eucSteps := n, eucTrig := k, eucRot := r, eucPad := p }))

/-- SET_EUC_TRIG clamps to `1..EUC_STEPS`, SET_EUC_ROT to `0..EUC_STEPS-1`, SET_EUC_PAD to `0..64-EUC_STEPS`, for EUC_STEPS in its
legal range (10_state.md R39), and each runs REGEN exactly when EUC_EN = 1 (41_setters.md R161, R162, R163). -/
def Obligations.EuclideanSettersClampAgainstSteps : Prop :=
  ∀ (ch : Chan) (d : Half) (s : State),
    1 ≤ (s.chan ch).par.eucSteps.toNat → (s.chan ch).par.eucSteps.toNat ≤ 64 →
    (∃ x : BitVec 7, (x.toNat : Int) = max 1 (min ((s.chan ch).par.eucSteps.toNat : Int) d.toInt) ∧
      SetterWord (.setEucTrig ch d) 0x1A ch d ∧
      exec (.setEucTrig ch d) s = .next (s.afterChan ch ((s.chan ch).afterEuc { (s.chan ch).par with eucTrig := x }))) ∧
    (∃ x : BitVec 6, (x.toNat : Int) = max 0 (min (((s.chan ch).par.eucSteps.toNat : Int) - 1) d.toInt) ∧
      SetterWord (.setEucRot ch d) 0x1B ch d ∧
      exec (.setEucRot ch d) s = .next (s.afterChan ch ((s.chan ch).afterEuc { (s.chan ch).par with eucRot := x }))) ∧
    (∃ x : BitVec 7, (x.toNat : Int) = max 0 (min (64 - ((s.chan ch).par.eucSteps.toNat : Int)) d.toInt) ∧
      SetterWord (.setEucPad ch d) 0x1C ch d ∧
      exec (.setEucPad ch d) s = .next (s.afterChan ch ((s.chan ch).afterEuc { (s.chan ch).par with eucPad := x })))

/-- What every setter keeps (41_setters.md R150): it writes only its own channel, there no render state, latch or identity; no
global register but rdata, which is 0; legal parameters stay legal; and executing it twice is executing it once. -/
def Obligations.EverySetterIsClampedLocalAndIdempotent : Prop :=
  ∀ (i : Instr) (ch : Chan) (s t : State), i.setterChan = some ch → exec i s = .next t →
    t = { s with rdata := 0, chans := t.chans } ∧
    (∀ c, c ≠ ch → t.chan c = s.chan c) ∧
    (t.chan ch).render = (s.chan ch).render ∧ (t.chan ch).gateOut = (s.chan ch).gateOut ∧
    (t.chan ch).levelOut = (s.chan ch).levelOut ∧ (t.chan ch).chId = (s.chan ch).chId ∧ (t.chan ch).kind = (s.chan ch).kind ∧
    ((s.chan ch).par.Legal defaultParams → (t.chan ch).par.Legal defaultParams) ∧
    exec i t = .next t

/-- A saved channel is restored (70_reset_and_hazards.md R378): outside a master pause, the setters of that rule in its order, with
the sixteen values RD_PARAM reads of any legal registers `r`, leave the channel's parameters equal to `r` whatever they
were, with RHYTHM the pattern of `r` and the cursor in range when `r` enables Euclidean mode, and touch no other channel. -/
def Obligations.RestoreSequenceRoundTrips : Prop :=
  ∀ (ch : Chan) (r : ParamRegs) (s : State), r.Legal defaultParams → s.paused = false →
    ∃ t, execAll (restoreSequence ch r) s = .next t ∧ (t.chan ch).par = r ∧
      (r.eucEn = true → (t.chan ch).rhythm = r.pattern ∧ (t.chan ch).cursor.toNat < r.seqLen) ∧
      (t.chan ch).render = (s.chan ch).render ∧ (∀ c, c ≠ ch → t.chan c = s.chan c) ∧
      t = { s with rdata := 0, chans := t.chans }

/-! ### Global control -/

/-- NOP clears rdata and changes nothing else; its word is 0x00000000, and every other word with its opcode is illegal
(44_control.md R290). -/
def Obligations.NopOnlyClearsRdata : Prop :=
  (∀ s : State, exec .nop s = .next { s with rdata := 0 }) ∧ CommandWord .nop 0x00000000 ∧
  LegalWords 0x00 (fun w => w = 0x00000000)

/-- PAUSE copies every OUT_EN into PREV_EN, clears OUT_EN and sets PAUSED, and changes no output latch; while paused it changes
nothing but rdata (44_control.md R291). RESUME copies every PREV_EN into OUT_EN and clears PAUSED; while not paused it changes
nothing but rdata (R292). -/
def Obligations.PauseAndResumeMoveTheEnables : Prop :=
  CommandWord .pause 0x03000000 ∧ LegalWords 0x03 (fun w => w = 0x03000000) ∧
  CommandWord .resume 0x04000000 ∧ LegalWords 0x04 (fun w => w = 0x04000000) ∧
  ∀ s : State,
    (∃ t, exec .pause s = .next t ∧
      (s.paused = true → t = { s with rdata := 0 }) ∧
      (s.paused = false →
        t = { s with rdata := 0, paused := true, chans := t.chans } ∧
        ∀ ch, t.chan ch =
          { s.chan ch with prevEn := (s.chan ch).par.outEn, par := { (s.chan ch).par with outEn := false } })) ∧
    (∃ t, exec .resume s = .next t ∧
      (s.paused = false → t = { s with rdata := 0 }) ∧
      (s.paused = true →
        t = { s with rdata := 0, paused := false, chans := t.chans } ∧
        ∀ ch, t.chan ch = { s.chan ch with par := { (s.chan ch).par with outEn := (s.chan ch).prevEn } }))

/-- The pause/resume property (44_control.md R293): from a state with PAUSED = 0, PAUSE, then any commands but SET_OUT_EN, TICKs,
PAUSEs and RESUMEs among them, then RESUME, leaves every OUT_EN as it was. A SET_OUT_EN while paused does not end the pause, and
RESUME then restores the value it wrote. -/
def Obligations.PauseThenResumeRestoresOutEn : Prop :=
  (∀ (s : State) (is : List Instr), s.paused = false → (∀ i ∈ is, i.isSetOutEn = false) →
    ∃ t, execAll (.pause :: (is ++ [.resume])) s = .next t ∧ t.paused = false ∧
      ∀ ch, (t.chan ch).par.outEn = (s.chan ch).par.outEn) ∧
  (∀ (s : State) (ch : Chan) (d : Half), s.paused = true →
    ∃ t u, exec (.setOutEn ch d) s = .next t ∧ t.paused = true ∧ exec .resume t = .next u ∧
      (u.chan ch).par.outEn = decide (0 < d.toInt) ∧
      ∀ c, c ≠ ch → (u.chan c).par.outEn = (s.chan c).prevEn)

/-- SET_PPQN clamps to `1..32767`, CLR_GTICK clears GTICK, SEED writes the zero-extended operand with 0 replaced by 1; each clears
rdata and changes nothing else; the words with their opcodes and a non-zero field their form fixes are illegal
(44_control.md R294, R296, R297). -/
def Obligations.GlobalWritesChangeOneRegister : Prop :=
  LegalWords 0x05 (fun w => ∃ d, w = wordOf 0x05 0 0 d) ∧ LegalWords 0x06 (fun w => w = 0x06000000) ∧
  LegalWords 0x07 (fun w => ∃ d, w = wordOf 0x07 0 0 d) ∧
  ∀ (d : Half) (s : State),
    (∃ x : Half, (x.toNat : Int) = max 1 (min 32767 d.toInt) ∧
      CommandWord (.setPpqn d) (wordOf 0x05 0 0 d) ∧ exec (.setPpqn d) s = .next { s with rdata := 0, ppqn := x }) ∧
    (CommandWord .clrGtick 0x06000000 ∧ exec .clrGtick s = .next { s with rdata := 0, gtick := 0 }) ∧
    (∃ u : Word, u.toNat = (if d.toNat = 0 then 1 else d.toNat) ∧
      CommandWord (.seed d) (wordOf 0x07 0 0 d) ∧ exec (.seed d) s = .next { s with rdata := 0, rng := u })

/-- Who writes the global registers: GTICK only TICK and CLR_GTICK, PPQN only SET_PPQN, RNG only TICK and SEED, PAUSED only PAUSE
and RESUME (10_state.md R33, R34, R35, R37), and ZPER only TICK, ILL by no well-formed command (R36). -/
def Obligations.GlobalRegistersHaveOnlyTheirWriters : Prop :=
  ∀ (i : Instr) (s t : State), exec i s = .next t →
    ((i ≠ .tick ∧ i ≠ .clrGtick) → t.gtick = s.gtick) ∧
    ((∀ d, i ≠ .setPpqn d) → t.ppqn = s.ppqn) ∧
    ((i ≠ .tick ∧ ∀ d, i ≠ .seed d) → t.rng = s.rng) ∧
    ((i ≠ .pause ∧ i ≠ .resume) → t.paused = s.paused) ∧
    (i ≠ .tick → t.status.zper = s.status.zper) ∧
    (i.wf = true → t.status.ill = s.status.ill) ∧
    (i.isRead = false → t.rdata = 0)

/-! ### Readback -/

/-- RD_OUT reads `{7'b0, GATE_OUT, LEVEL_OUT}`, the values of the ports, and changes nothing but rdata; a word with its opcode and
`CH >= 4` or a non-zero ADDR or DATA is illegal (44_control.md R303). -/
def Obligations.RdOutReadsTheLatches : Prop :=
  LegalWords 0x20 (fun w => ∃ ch, w = wordOf 0x20 (chanField ch) 0 0) ∧
  ∀ (ch : Chan) (s : State), CommandWord (.rdOut ch) (wordOf 0x20 (chanField ch) 0 0) ∧ ∃ v : Half, exec (.rdOut ch) s = .next { s with rdata := v } ∧
    v.extractLsb' 0 8 = s.levelPort ch ∧ v.getLsbD 8 = s.gatePort ch ∧ v.extractLsb' 9 7 = 0 ∧
    s.levelPort ch = (s.chan ch).levelOut ∧ s.gatePort ch = (s.chan ch).gateOut

/-- RD_PARAM reads parameter register `a`, zero-extended, in the numbering of 10_state.md R39, and changes nothing but rdata; a word
with its opcode and `CH >= 4` or a non-zero DATA is illegal (44_control.md R304, 20_memory.md R71). -/
def Obligations.RdParamReadsTheRegister : Prop :=
  LegalWords 0x21 (fun w => ∃ ch a, w = wordOf 0x21 (chanField ch) a 0) ∧
  ∀ (ch : Chan) (a : BitVec 4) (s : State),
    let r := (s.chan ch).par
    CommandWord (.rdParam ch a) (wordOf 0x21 (chanField ch) a 0) ∧ ∃ v : Half, exec (.rdParam ch a) s = .next { s with rdata := v } ∧
      ([r.div.toNat, r.duty.toNat, r.phase.toNat, r.level.toNat, r.offset.toNat, r.swingAmt.toNat, r.swingEvery.toNat,
        r.prob.toNat, r.eucEn.toNat, r.eucSteps.toNat, r.eucTrig.toNat, r.eucRot.toNat, r.eucPad.toNat, r.wave.code,
        r.outEn.toNat, r.ext.toNat])[a.toNat]? = some v.toNat

/-- RD_STATE reads the nine words of the STATE space and changes nothing but rdata; a word with its opcode and `CH >= 4`, an
address above 8 or a non-zero DATA is illegal (44_control.md R305, 20_memory.md R72). -/
def Obligations.RdStateReadsTheStateSpace : Prop :=
  LegalWords 0x22 (fun w => ∃ (ch : Chan) (a : BitVec 4), a.toNat ≤ 8 ∧ w = wordOf 0x22 (chanField ch) a 0) ∧
  ∀ (ch : Chan) (a : BitVec 4) (s : State), a.toNat ≤ 8 →
    let c := s.chan ch
    CommandWord (.rdState ch a) (wordOf 0x22 (chanField ch) a 0) ∧ ∃ v : Half, exec (.rdState ch a) s = .next { s with rdata := v } ∧
      ([c.cursor.toNat, c.render.elapsed.toNat % 65536, c.render.elapsed.toNat / 65536,
        c.render.wstate.code + 4 * c.render.dir.toNat + 8 * c.pend.toNat + 16 * c.prevEn.toNat + 32 * kindCode c.kind +
          64 * c.chId.toNat,
        c.render.sample.toNat, c.render.shHold.toNat, c.render.srWalk.toNat, c.render.srFilt.toNat,
        c.extcnt.toNat])[a.toNat]? = some v.toNat

/-- RD_RHYTHM's bit `b` of word `w` is Euclidean step `16 w + b`, and nothing but rdata changes; a word with its opcode and
`CH >= 4`, an address above 3 or a non-zero DATA is illegal (44_control.md R306, 20_memory.md R73). -/
def Obligations.RdRhythmReadsTheSteps : Prop :=
  LegalWords 0x23 (fun w => ∃ (ch : Chan) (a : BitVec 4), a.toNat ≤ 3 ∧ w = wordOf 0x23 (chanField ch) a 0) ∧
  ∀ (ch : Chan) (a : BitVec 4) (s : State), a.toNat ≤ 3 →
    CommandWord (.rdRhythm ch a) (wordOf 0x23 (chanField ch) a 0) ∧ ∃ v : Half, exec (.rdRhythm ch a) s = .next { s with rdata := v } ∧
      ∀ b, b < 16 → v.getLsbD b = (s.chan ch).rhythm.getLsbD (16 * a.toNat + b)

/-- RD_GLOBAL reads the seven words of the GLOBAL space and changes nothing but rdata; a word with its opcode and a non-zero CH, an
address above 6 or a non-zero DATA is illegal (44_control.md R307, 20_memory.md R73). -/
def Obligations.RdGlobalReadsTheGlobalSpace : Prop :=
  LegalWords 0x24 (fun w => ∃ a : BitVec 4, a.toNat ≤ 6 ∧ w = wordOf 0x24 0 a 0) ∧
  ∀ (a : BitVec 4) (s : State), a.toNat ≤ 6 →
    CommandWord (.rdGlobal a) (wordOf 0x24 0 a 0) ∧ ∃ v : Half, exec (.rdGlobal a) s = .next { s with rdata := v } ∧
      ([s.ppqn.toNat, s.gtick.toNat % 65536, s.gtick.toNat / 65536, s.status.ill.toNat + 2 * s.status.zper.toNat,
        s.paused.toNat, s.rng.toNat % 65536, s.rng.toNat / 65536])[a.toNat]? = some v.toNat

/-- Reads are idempotent and free of side effects: a well-formed read changes rdata alone, and repeating it changes nothing
(44_control.md R300, 20_memory.md R78). A read value whose address is outside its space, which no word decodes to, has the
effect of an illegal word: the model's choice (notes/assumptions/8). -/
def Obligations.ReadsHaveNoSideEffects : Prop :=
  ∀ (i : Instr) (s t : State), i.isRead = true → exec i s = .next t →
    (i.wf = true → t = { s with rdata := t.rdata } ∧ exec i t = .next t) ∧
    (i.wf = false → t = { s with rdata := 0, status := { s.status with ill := true } })

/-! ### TICK: the channel step -/

/-- TICK runs the channel steps 0, 1, 2, 3 in this order on one snapshot of GTICK and PPQN, each on the random generator the one
before left, sets ZPER when one of them met a zero period, increments GTICK modulo 2^32 and clears rdata; every word with its
opcode but 0x01000000 is illegal (42_tick.md R190). -/
def Obligations.TickRunsTheChannelsInOrder : Prop :=
  CommandWord .tick 0x01000000 ∧ LegalWords 0x01 (fun w => w = 0x01000000) ∧
  ∀ s : State,
    let step1 := channelStep defaultParams s.gtick.toNat s.ppqn.toNat
    let x0 := step1 (s.chan 0) s.rng
    let x1 := step1 (s.chan 1) x0.rng
    let x2 := step1 (s.chan 2) x1.rng
    let x3 := step1 (s.chan 3) x2.rng
    ∃ t, exec .tick s = .next t ∧
      t = { s with
            rdata := 0, gtick := s.gtick + 1, rng := x3.rng, chans := ⟨x0.chan, x1.chan, x2.chan, x3.chan⟩,
            status := { s.status with zper := s.status.zper || x0.zper || x1.zper || x2.zper || x3.zper } }

/-- What TICK leaves unchanged: every parameter register, the identity, PREV_EN, RHYTHM and EXTCNT of every channel, PPQN, PAUSED and
STATUS.ILL; and the cursor of every channel with EUC_EN = 0 (42_tick.md R190, R219). -/
def Obligations.TickKeepsParametersAndIdentity : Prop :=
  ∀ s : State, ∃ t, exec .tick s = .next t ∧
    t.ppqn = s.ppqn ∧ t.paused = s.paused ∧ t.status.ill = s.status.ill ∧ t.inputs = s.inputs ∧ t.rdata = 0 ∧
    t.gtick.toNat = (s.gtick.toNat + 1) % 2 ^ 32 ∧
    ∀ ch, (t.chan ch).par = (s.chan ch).par ∧ (t.chan ch).chId = (s.chan ch).chId ∧ (t.chan ch).kind = (s.chan ch).kind ∧
      (t.chan ch).prevEn = (s.chan ch).prevEn ∧ (t.chan ch).rhythm = (s.chan ch).rhythm ∧
      (t.chan ch).extcnt = (s.chan ch).extcnt ∧
      ((s.chan ch).par.eucEn = false → (t.chan ch).cursor = (s.chan ch).cursor)

/-- A disabled channel takes the disabled path: render state reset, PEND 0, gate 0, level at the off-render, nothing else of it
changed; it draws nothing and never raises ZERO_PERIOD, whatever the tick, the resolution and the generator are
(42_tick.md R202, 43_waveform.md R267), OFFSET in its legal range. -/
def Obligations.DisabledChannelIsForcedOff : Prop :=
  ∀ (s : State) (ch : Chan), (s.chan ch).par.outEn = false → (s.chan ch).par.offset.toNat ≤ 100 →
    ∃ t v, exec .tick s = .next t ∧
      t.chan ch = { s.chan ch with render := RenderState.reset, pend := false, gateOut := false, levelOut := v } ∧
      (∀ g q rng, channelStep defaultParams g q (s.chan ch) rng = ⟨t.chan ch, rng, false⟩) ∧
      v.toNat = (if (s.chan ch).kind = .analog then (s.chan ch).par.offset.toNat * 255 / 100 else 0)

/-- The zero-period guard: an enabled channel with `P = 0` keeps every field and draws nothing, STATUS.ZPER is set, and GTICK goes
on (42_tick.md R203, 60_exceptions.md R334); and a disabled channel never raises it. -/
def Obligations.ZeroPeriodKeepsTheChannel : Prop :=
  ∀ (s : State) (ch : Chan),
    ((s.chan ch).par.outEn = true →
      s.ppqn.toNat * (defaultParams.ratio (s.chan ch).par.div.toNat).den / (defaultParams.ratio (s.chan ch).par.div.toNat).num = 0 →
      (∀ g rng, channelStep defaultParams g s.ppqn.toNat (s.chan ch) rng = ⟨s.chan ch, rng, true⟩) ∧
      ∃ t, exec .tick s = .next t ∧ t.chan ch = s.chan ch ∧ t.status.zper = true ∧ t.gtick = s.gtick + 1) ∧
    ((∀ c, (s.chan c).par.outEn = false) → ∃ t, exec .tick s = .next t ∧ t.status.zper = s.status.zper ∧ t.rng = s.rng)

/-- The phase accumulator and the start test of an enabled channel with a period `P >= 1`: PEND is cleared; ELAPSED becomes 0 when a
cycle starts and otherwise counts, saturating. In ext-div mode a cycle starts on PEND; else at `G = 0` and when
`(G - X) mod P = 0`, with `X = OFF` plus `S` on swung cycles (42_tick.md R193, R195, R196, R197, R204, R205, R206). -/
def Obligations.ElapsedRestartsExactlyAtCycleStarts : Prop :=
  ∀ (s : State) (ch : Chan),
    let c := s.chan ch
    let ratio := defaultParams.ratio c.par.div.toNat
    let g := s.gtick.toNat
    let period := s.ppqn.toNat * ratio.den / ratio.num
    let off := period * c.par.phase.toNat / 100
    let swing := defaultParams.swing c.par.swingAmt.toNat * s.ppqn.toNat / 96
    let x := if (g / period) % c.par.swingEvery.toNat = 0 then off + swing else off
    let start := if c.par.ext = true ∧ ratio.num < ratio.den then c.pend = true
      else g = 0 ∨ ((g : Int) - (x : Int)) % (period : Int) = 0
    c.par.outEn = true → 1 ≤ period →
    ∃ t, exec .tick s = .next t ∧ (t.chan ch).pend = false ∧
      (start → (t.chan ch).render.elapsed = 0) ∧
      (¬ start → (t.chan ch).render.elapsed.toNat = min (c.render.elapsed.toNat + 1) (2 ^ 32 - 1))

/-- The start grid: with `OFF + S < P`, the internal start test holds at `G = 0` and at the tick `X` of each cycle and at no other,
where `X` is `S` ticks LATER on the swung cycles (42_tick.md R197, R206, R207; 90_conflicts.md C1). -/
def Obligations.SwungCyclesStartLater : Prop :=
  ∀ g period off s every : Nat, off + s < period →
    (startTest g period (displacement g period off s every) = true ↔
      g = 0 ∨ g % period = off + (if (g / period) % every = 0 then s else 0))

/-- The Euclidean sequencer: a start of a channel with EUC_EN = 1 (ELAPSED is 0 after the TICK) consults the RHYTHM bit under the
cursor, which decides whether the gate rises (a shape cut off at `D` needs `D >= 1`), and advances the cursor with wrap at
`EUC_STEPS + EUC_PAD`; any other TICK leaves the cursor (42_tick.md R208, R210, R211, R213 to R216). -/
def Obligations.EuclideanStartConsultsRhythm : Prop :=
  ∀ (s : State) (ch : Chan),
    let c := s.chan ch
    c.par.outEn = true → c.par.eucEn = true → 1 ≤ c.period defaultParams s.ppqn.toNat → c.par.seqLen ≤ 64 →
    ∃ t, exec .tick s = .next t ∧
      ((t.chan ch).render.elapsed ≠ 0 → (t.chan ch).cursor = c.cursor) ∧
      ((t.chan ch).render.elapsed = 0 →
        (t.chan ch).cursor.toNat = (if c.par.seqLen ≤ c.cursor.toNat + 1 then 0 else c.cursor.toNat + 1) ∧
        ((t.chan ch).gateOut = true ↔
          c.rhythm.getLsbD c.cursor.toNat = true ∧
            (1 ≤ c.pulse defaultParams s.ppqn.toNat ∨ c.par.wave.cls = .continuous)))

/-- The probability gate: at a start with EUC_EN = 0 the cycle fires exactly when `(RNG * 100) >> 32` of the generator's next state
is below PROB, so that PROB = 100 fires always and PROB = 0 never; the gate then rises (a shape cut off at `D` needs
`D >= 1`), and the cursor stays (42_tick.md R209, R227). -/
def Obligations.ProbabilityGateFiresBelowProb : Prop :=
  ∀ (g q : Nat) (c : Channel) (rng : Word),
    c.par.outEn = true → c.par.eucEn = false → 1 ≤ c.period defaultParams q → c.starts defaultParams g q = true →
    let x := channelStep defaultParams g q c rng
    let live := 1 ≤ c.pulse defaultParams q ∨ c.par.wave.cls = .continuous
    x.chan.cursor = c.cursor ∧ x.chan.render.elapsed = 0 ∧
    (x.chan.gateOut = true ↔ (xorshift32 rng).toNat * 100 / 2 ^ 32 < c.par.prob.toNat ∧ live) ∧
    (c.par.prob.toNat = 100 → (x.chan.gateOut = true ↔ live)) ∧
    (c.par.prob.toNat = 0 → x.chan.gateOut = false ∧ x.chan.render.wstate = .idle)

/-- The waveform sub-state machine of one channel step, every row of the table of 42_tick.md R218: the disabled and the zero-period
channel, a start that fires or does not, and the cutoff of each class at the step's ELAPSED. -/
def Obligations.SubStateMachineFollowsTheTable : Prop :=
  ∀ (g q : Nat) (c : Channel) (rng : Word),
    let x := channelStep defaultParams g q c rng
    let w := c.render.wstate
    let w' := x.chan.render.wstate
    let e := x.chan.render.elapsed.toNat
    let d := c.pulse defaultParams q
    let start := c.starts defaultParams g q = true
    let fire := if c.par.eucEn then c.rhythm.getLsbD c.cursor.toNat = true
      else (xorshift32 rng).toNat * 100 / 2 ^ 32 < c.par.prob.toNat
    (c.par.outEn = false → w' = .idle) ∧
    (c.par.outEn = true → c.period defaultParams q = 0 → w' = w) ∧
    (c.par.outEn = true → 1 ≤ c.period defaultParams q →
      (start → ¬ fire → w' = .idle) ∧
      (¬ start → w = .idle → w' = .idle) ∧
      (∀ v : WState, (start ∧ fire ∧ v = .active) ∨ (¬ start ∧ w ≠ .idle ∧ v = w) →
        (c.par.wave.cls = .gateLike → w' = if d ≤ e then .idle else v) ∧
        (c.par.wave.cls = .envelope → w' = if d ≤ e then .idle else if 1 ≤ e then .decaying else v) ∧
        (c.par.wave.cls = .continuous → w' = v)))

/-- The draws of a channel step: RNG advances once for the probability gate at a start with EUC_EN = 0, once for SAMPLE_HOLD at a
firing start, once for RANDOM and SMOOTH_RANDOM when the final sub-state is not IDLE, and not at all on a disabled or
zero-period step (42_tick.md R228). -/
def Obligations.ChannelStepDrawsAsCounted : Prop :=
  ∀ (g q : Nat) (c : Channel) (rng : Word),
    let x := channelStep defaultParams g q c rng
    let fire := if c.par.eucEn then c.rhythm.getLsbD c.cursor.toNat
      else decide ((xorshift32 rng).toNat * 100 / 2 ^ 32 < c.par.prob.toNat)
    x.rng =
      if c.par.outEn = true ∧ 1 ≤ c.period defaultParams q then
        xorshift32^[drawCount (c.starts defaultParams g q) c.par.eucEn fire c.par.wave x.chan.render.wstate] rng
      else rng

/-- What an enabled channel step with a period renders, shape by shape, from the step's own ELAPSED, `P`, `D` and final sub-state,
with DUTY in its legal range: the sample's exact value (no truncation) and the direction bit (43_waveform.md R242, R252 to
R260, R262, R263). -/
def Obligations.ChannelStepRendersItsShape : Prop :=
  ∀ (g q : Nat) (c : Channel) (rng : Word),
    c.par.outEn = true → 1 ≤ c.period defaultParams q → 1 ≤ c.par.duty.toNat → c.par.duty.toNat ≤ 99 →
    let x := channelStep defaultParams g q c rng
    let r := x.chan.render
    let e := r.elapsed.toNat
    let period := c.period defaultParams q
    let d := c.pulse defaultParams q
    (r.wstate = .idle → r.sample = 0 ∧ r.dir = false) ∧
    (r.wstate ≠ .idle →
      (c.par.wave = .gate → r.sample = 255 ∧ r.dir = true) ∧
      (c.par.wave = .triangle →
        r.sample.toNat = (if e < d then 255 * e / d else 255 * (period - e) / (period - d)) ∧ r.dir = decide (e < d)) ∧
      (c.par.wave = .sine →
        r.sample.toNat = defaultParams.sineWarp c.par.duty.toNat (luti sineLut (65536 * (e % period) / period)) ∧
        r.dir = decide (65536 * (e % period) / period < 32768)) ∧
      (c.par.wave = .parabolic →
        e < d ∧ r.sample.toNat = luti halfLut (65536 * e / d) ∧ r.dir = decide (65536 * e / d < 32768)) ∧
      (c.par.wave = .sawtooth → e < d ∧ r.sample.toNat = 255 * e / d ∧ r.dir = true) ∧
      (c.par.wave = .expEnv → e < d ∧ r.sample.toNat = luti expLut (65536 * e / d) ∧ r.dir = false) ∧
      (c.par.wave = .logEnv → e < d ∧ r.sample.toNat = luti logLut (65536 * e / d) ∧ r.dir = false) ∧
      (c.par.wave = .random → r.sample.toNat = x.rng.toNat / 2 ^ 24 ∧ r.dir = true) ∧
      (c.par.wave = .sampleHold → r.sample = r.shHold ∧ r.dir = true))

/-- SMOOTH_RANDOM: the walk moves by `(r mod 33) - 16` of the drawn byte `r`, clamped to `0..255`; the filter moves by the floor of
a quarter of its distance to the walk; the sample is the filter's high byte; and the filter stays in `0..0xFF00`
(43_waveform.md R261). -/
def Obligations.SmoothRandomWalksAndFilters : Prop :=
  ∀ (g q : Nat) (c : Channel) (rng : Word),
    c.par.outEn = true → 1 ≤ c.period defaultParams q → c.par.wave = .smoothRandom → c.render.srFilt.toNat ≤ 0xFF00 →
    let x := channelStep defaultParams g q c rng
    let r := x.chan.render
    (r.wstate = .idle → r.srWalk = c.render.srWalk ∧ r.srFilt = c.render.srFilt) ∧
    (r.wstate ≠ .idle →
      (r.srWalk.toNat : Int) =
        max 0 (min 255 ((c.render.srWalk.toNat : Int) + ((x.rng.toNat / 2 ^ 24 % 33 : Nat) : Int) - 16)) ∧
      (r.srFilt.toNat : Int) =
        (c.render.srFilt.toNat : Int) + ((r.srWalk.toNat : Int) * 256 - (c.render.srFilt.toNat : Int)) / 4 ∧
      r.srFilt.toNat ≤ 0xFF00 ∧ r.sample.toNat = r.srFilt.toNat / 256 ∧ r.dir = true)

/-- SH_HOLD is drawn at a firing start of a SAMPLE_HOLD channel, as the top byte of the generator's last state of the step, and keeps
its value on every other enabled step (43_waveform.md R262, 42_tick.md R208). -/
def Obligations.SampleHoldDrawsAtFiringStarts : Prop :=
  ∀ (g q : Nat) (c : Channel) (rng : Word),
    c.par.outEn = true → 1 ≤ c.period defaultParams q →
    let x := channelStep defaultParams g q c rng
    let fire := if c.par.eucEn then c.rhythm.getLsbD c.cursor.toNat = true
      else (xorshift32 rng).toNat * 100 / 2 ^ 32 < c.par.prob.toNat
    (c.starts defaultParams g q = true ∧ fire ∧ c.par.wave = .sampleHold →
      x.chan.render.shHold.toNat = x.rng.toNat / 2 ^ 24 ∧ x.chan.render.sample = x.chan.render.shHold) ∧
    (¬ (c.starts defaultParams g q = true ∧ fire ∧ c.par.wave = .sampleHold) → x.chan.render.shHold = c.render.shHold)

/-- The output latch of an enabled channel step with a period: the gate is high exactly in a sub-state other than IDLE; a DIGITAL
level is 255 or 0 with the gate; an ANALOG level is the off-level when IDLE and otherwise the sample scaled by LEVEL plus the
offset, clamped to 255, each term rounded down (42_tick.md R216, 43_waveform.md R266, R267), OFFSET in its legal range. -/
def Obligations.LatchShowsGateAndLevel : Prop :=
  ∀ (s : State) (ch : Chan),
    (s.chan ch).par.outEn = true → 1 ≤ (s.chan ch).period defaultParams s.ppqn.toNat → (s.chan ch).par.offset.toNat ≤ 100 →
    ∃ t, exec .tick s = .next t ∧
      let c := t.chan ch
      (c.gateOut = true ↔ c.render.wstate ≠ .idle) ∧
      (c.kind = .digital → c.levelOut = if c.gateOut then 255 else 0) ∧
      (c.kind = .analog → c.render.wstate = .idle → c.levelOut.toNat = c.par.offset.toNat * 255 / 100) ∧
      (c.kind = .analog → c.render.wstate ≠ .idle →
        c.levelOut.toNat = min 255 (c.render.sample.toNat * c.par.level.toNat / 100 + c.par.offset.toNat * 255 / 100))

/-- Channels do not read one another: a channel in Euclidean mode whose shape draws nothing ends a TICK in the same state whatever
the other channels, the random generator, the flags and the pause are, given the same GTICK and PPQN (42_tick.md R219,
R228). -/
def Obligations.EuclideanChannelIgnoresTheOthers : Prop :=
  ∀ (s s' : State) (ch : Chan), s'.chan ch = s.chan ch → s'.gtick = s.gtick → s'.ppqn = s.ppqn →
    (s.chan ch).par.eucEn = true →
    (s.chan ch).par.wave ≠ .random → (s.chan ch).par.wave ≠ .smoothRandom → (s.chan ch).par.wave ≠ .sampleHold →
    ∃ t t', exec .tick s = .next t ∧ exec .tick s' = .next t' ∧ t'.chan ch = t.chan ch

/-- EXT_PULSE counts one pulse on every channel in ext-div mode: with `R = den div num`, PEND is set when `EXTCNT mod R = 0` and
EXTCNT becomes `(EXTCNT + 1) mod R`; every other channel and register but rdata is unchanged; every word with its opcode but
0x02000000 is illegal (42_tick.md R221), DIV in its legal range. -/
def Obligations.ExtPulseCountsOnExtDivChannels : Prop :=
  CommandWord .extPulse 0x02000000 ∧ LegalWords 0x02 (fun w => w = 0x02000000) ∧
  ∀ s : State, (∀ ch, (s.chan ch).par.div.toNat < 15) → ∃ t, exec .extPulse s = .next t ∧
    t = { s with rdata := 0, chans := t.chans } ∧
    ∀ ch,
      let c := s.chan ch
      let ratio := defaultParams.ratio c.par.div.toNat
      if c.par.ext = true ∧ ratio.num < ratio.den then
        ∃ n : BitVec 7, n.toNat = (c.extcnt.toNat + 1) % (ratio.den / ratio.num) ∧
          t.chan ch = { c with extcnt := n, pend := c.pend || decide (c.extcnt.toNat % (ratio.den / ratio.num) = 0) }
      else t.chan ch = c

/-- The output latches and the render state are written by TICK alone: every other command leaves both ports and the render state of
every channel (42_tick.md R216, 90_conflicts.md C10). -/
def Obligations.OnlyTickMovesTheOutputs : Prop :=
  ∀ (i : Instr) (s t : State), i ≠ .tick → exec i s = .next t →
    ∀ ch, t.gatePort ch = s.gatePort ch ∧ t.levelPort ch = s.levelPort ch ∧ (t.chan ch).render = (s.chan ch).render

/-- Both STATUS bits are sticky: no command step without `rst` clears them (10_state.md R36, 60_exceptions.md R338). -/
def Obligations.StatusBitsAreSticky : Prop :=
  ∀ s t : State, step s = .next t → s.presented.rst = false →
    (s.status.ill = true → t.status.ill = true) ∧ (s.status.zper = true → t.status.zper = true)

/-- The duty-cycle property (42_tick.md R229): from reset, with `P = 96` and `D = 48`, after the TICK with global tick `n` channel 0
stands `n mod 96` ticks past its cycle start, its gate is high and its level 255 for `n mod 96` in `0..47`, and low and 0 for
`n mod 96` in `48..95`. -/
def Obligations.DutyCyclePropertyFromReset : Prop :=
  (State.reset.chan 0).period defaultParams State.reset.ppqn.toNat = 96 ∧
  (State.reset.chan 0).pulse defaultParams State.reset.ppqn.toNat = 48 ∧
  ∀ n : Nat, n < 2 ^ 32 → ∃ t, execAll (List.replicate (n + 1) .tick) State.reset = .next t ∧
    (t.chan 0).render.elapsed.toNat = n % 96 ∧ t.gatePort 0 = decide (n % 96 < 48) ∧ t.levelPort 0 = if n % 96 < 48 then 255 else 0

/-! ### The Euclidean generator, the tables and the tick counts -/

/-- Properties of `BJ(k, n)` (40_euclid.md R123): exactly `n` elements, exactly `k` of them true, element 0 true, all true for
`k = n`. -/
def Obligations.BjHasItsLengthAndTriggers : Prop :=
  ∀ k n : Nat, 1 ≤ k → k ≤ n →
    (bj k n).length = n ∧ (bj k n).count true = k ∧ (bj k n).head? = some true ∧ bj n n = List.replicate n true

/-- The loop of `BJ` ends within the `n` iterations the model allows it: more change nothing (40_euclid.md R122, R126;
notes/assumptions/7). -/
def Obligations.BjLoopEndsWithinItsBound : Prop :=
  ∀ k n fuel : Nat, 1 ≤ k → k ≤ n → n ≤ fuel →
    bjLoop fuel (List.replicate k [true]) (List.replicate (n - k) [false]) = bj k n

/-- `GEN(n, k, r, p)` bit by bit: `base[(i + r) mod n]` below `n`, 0 from `n` on; the pad changes no bit (40_euclid.md R124). -/
def Obligations.GenRotatesTheBasePattern : Prop :=
  ∀ n k r p i : Nat, 1 ≤ k → k ≤ n → n + p ≤ 64 → r < n → i < 64 →
    (gen n k r p).getLsbD i = if i < n then (bj k n).getD ((i + r) % n) false else false

/-- Rotation `rot_r(s)[i] = s[(i + r) mod n]` is a cyclic group action on the `n` steps; rotating by `r` and then by `n - r` gives
the sequence back; and the first `n` bits of `GEN(n, k, r, p)` are `rot_r(BJ(k, n))` (40_euclid.md R125). -/
def Obligations.RotationIsACyclicAction : Prop :=
  (∀ (n a b : Nat) (xs : List Bool), xs.length = n → 1 ≤ n →
    (∀ i, i < n → (rotated n a xs)[i]? = xs[(i + a) % n]?) ∧
    rotated n b (rotated n a xs) = rotated n ((a + b) % n) xs ∧
    (a < n → rotated n (n - a) (rotated n a xs) = xs)) ∧
  (∀ n k r p i : Nat, 1 ≤ k → k ≤ n → n + p ≤ 64 → r < n → i < n →
    (rotated n r (bj k n))[i]? = some ((gen n k r p).getLsbD i))

/-- `D = (P * DUTY) div 100` with `0 <= D < P` for a legal DUTY and `P >= 1`, `D = 0` exactly when `P * DUTY < 100` (42_tick.md
R194); `OFF = (P * PHASE) div 100` with `0 <= OFF <= P` for a legal PHASE (R195). -/
def Obligations.PulseAndPhaseStayWithinThePeriod : Prop :=
  ∀ period duty phase : Nat, 1 ≤ period → 1 ≤ duty → duty ≤ 99 → phase ≤ 100 →
    pulseTicks period duty = period * duty / 100 ∧ pulseTicks period duty < period ∧
    (pulseTicks period duty = 0 ↔ period * duty < 100) ∧
    phaseTicks period phase = period * phase / 100 ∧ phaseTicks period phase ≤ period

/-- `LUTI(T, ph) = (T[i] * (256 - f) + T[i + 1] * f) >> 8` with `i = ph >> 8` and `f = ph & 0xFF`; the result lies between the two
entries it reads and equals the first when the fraction is 0 (43_waveform.md R244). -/
def Obligations.LutiStaysBetweenItsEntries : Prop :=
  ∀ (t : List Nat) (ph : Nat),
    luti t ph = (lutRead t (ph >>> 8) * (256 - (ph &&& 0xFF)) + lutRead t ((ph >>> 8) + 1) * (ph &&& 0xFF)) >>> 8 ∧
    min (lutRead t (ph / 256)) (lutRead t (ph / 256 + 1)) ≤ luti t ph ∧
    luti t ph ≤ max (lutRead t (ph / 256)) (lutRead t (ph / 256 + 1)) ∧
    (ph % 256 = 0 → luti t ph = lutRead t (ph / 256))
end

