-- ==== Sys2Proof/Laws/State.lean ====
section
/-! SUPPORT. Small lemmas of the state record: one per field per update, true by rfl, and the reading of a channel after a write. -/

namespace Sys2Proof.Machine

/-! ### The four channels -/

@[simp] theorem Channels.get_set_same (cs : Channels) (ch : Chan) (c : Channel) : (cs.set ch c).get ch = c := by
  fin_cases ch <;> rfl

theorem Channels.get_set_ne (cs : Channels) {ch ch' : Chan} (c : Channel) (h : ch' ≠ ch) :
    (cs.set ch c).get ch' = cs.get ch' := by
  fin_cases ch <;> fin_cases ch' <;> first | rfl | exact absurd rfl h

theorem Channels.get_set (cs : Channels) (ch ch' : Chan) (c : Channel) :
    (cs.set ch c).get ch' = if ch' = ch then c else cs.get ch' := by
  fin_cases ch <;> fin_cases ch' <;> rfl

@[simp] theorem Channels.set_set_same (cs : Channels) (ch : Chan) (c c' : Channel) : (cs.set ch c).set ch c' = cs.set ch c' := by
  fin_cases ch <;> rfl

@[simp] theorem Channels.set_get_same (cs : Channels) (ch : Chan) : cs.set ch (cs.get ch) = cs := by
  fin_cases ch <;> rfl

@[simp] theorem Channels.get_map (f : Channel → Channel) (cs : Channels) (ch : Chan) : (cs.map f).get ch = f (cs.get ch) := by
  fin_cases ch <;> rfl

/-- Two groups of channels that read alike are equal. -/
theorem Channels.eq_of_get {cs cs' : Channels} (h : ∀ ch, cs.get ch = cs'.get ch) : cs = cs' := by
  cases cs; cases cs'
  have h0 := h 0; have h1 := h 1; have h2 := h 2; have h3 := h 3
  simp only [Channels.get] at h0 h1 h2 h3
  subst h0; subst h1; subst h2; subst h3; rfl

@[simp] theorem State.chan_setChan_same (s : State) (ch : Chan) (c : Channel) : (s.setChan ch c).chan ch = c :=
  Channels.get_set_same _ _ _

theorem State.chan_setChan_ne (s : State) {ch ch' : Chan} (c : Channel) (h : ch' ≠ ch) : (s.setChan ch c).chan ch' = s.chan ch' :=
  Channels.get_set_ne _ _ h

@[simp] theorem State.chan_setRdata (s : State) (v : Half) (ch : Chan) : (s.setRdata v).chan ch = s.chan ch := rfl

@[simp] theorem State.chan_consume (s : State) (ch : Chan) : s.consume.chan ch = s.chan ch := rfl

@[simp] theorem State.chan_raiseIllegal (s : State) (ch : Chan) : (raiseIllegal s).chan ch = s.chan ch := rfl

@[simp] theorem State.chan_bumpGtick (s : State) (ch : Chan) : (bumpGtick s).chan ch = s.chan ch := rfl

@[simp] theorem State.chan_afterPar_same (s : State) (ch : Chan) (r : ParamRegs) :
    (s.afterPar ch r).chan ch = { s.chan ch with par := r } := Channels.get_set_same _ _ _

@[simp] theorem State.chan_afterChan_same (s : State) (ch : Chan) (c : Channel) : (s.afterChan ch c).chan ch = c :=
  Channels.get_set_same _ _ _

theorem State.chan_afterPar_ne (s : State) {ch ch' : Chan} (r : ParamRegs) (h : ch' ≠ ch) :
    (s.afterPar ch r).chan ch' = s.chan ch' := Channels.get_set_ne _ _ h

theorem State.chan_afterChan_ne (s : State) {ch ch' : Chan} (c : Channel) (h : ch' ≠ ch) :
    (s.afterChan ch c).chan ch' = s.chan ch' := Channels.get_set_ne _ _ h

@[simp] theorem State.presented_present (s : State) (w : Word) : (s.present w).presented = ⟨false, true, w⟩ := rfl

@[simp] theorem State.consume_of_present (s : State) (w : Word) : (s.present w).consume = s := rfl

@[simp] theorem Status.setIll_ill (st : Status) : st.setIll.ill = true := rfl
@[simp] theorem Status.setIll_zper (st : Status) : st.setIll.zper = st.zper := rfl
@[simp] theorem Status.orZper_ill (st : Status) (b : Bool) : (st.orZper b).ill = st.ill := rfl
@[simp] theorem Status.orZper_zper (st : Status) (b : Bool) : (st.orZper b).zper = (st.zper || b) := rfl

/-! ### One lemma per field per update -/

@[simp] theorem State.setChan_gtick (s : State) (ch : Chan) (c : Channel) : (s.setChan ch c).gtick = s.gtick := rfl
@[simp] theorem State.setChan_ppqn (s : State) (ch : Chan) (c : Channel) : (s.setChan ch c).ppqn = s.ppqn := rfl
@[simp] theorem State.setChan_rng (s : State) (ch : Chan) (c : Channel) : (s.setChan ch c).rng = s.rng := rfl
@[simp] theorem State.setChan_status (s : State) (ch : Chan) (c : Channel) : (s.setChan ch c).status = s.status := rfl
@[simp] theorem State.setChan_paused (s : State) (ch : Chan) (c : Channel) : (s.setChan ch c).paused = s.paused := rfl
@[simp] theorem State.setChan_rdata (s : State) (ch : Chan) (c : Channel) : (s.setChan ch c).rdata = s.rdata := rfl
@[simp] theorem State.setChan_chans (s : State) (ch : Chan) (c : Channel) : (s.setChan ch c).chans = s.chans.set ch c := rfl
@[simp] theorem State.setChan_inputs (s : State) (ch : Chan) (c : Channel) : (s.setChan ch c).inputs = s.inputs := rfl

@[simp] theorem State.setRdata_gtick (s : State) (v : Half) : (s.setRdata v).gtick = s.gtick := rfl
@[simp] theorem State.setRdata_ppqn (s : State) (v : Half) : (s.setRdata v).ppqn = s.ppqn := rfl
@[simp] theorem State.setRdata_rng (s : State) (v : Half) : (s.setRdata v).rng = s.rng := rfl
@[simp] theorem State.setRdata_status (s : State) (v : Half) : (s.setRdata v).status = s.status := rfl
@[simp] theorem State.setRdata_paused (s : State) (v : Half) : (s.setRdata v).paused = s.paused := rfl
@[simp] theorem State.setRdata_rdata (s : State) (v : Half) : (s.setRdata v).rdata = v := rfl
@[simp] theorem State.setRdata_chans (s : State) (v : Half) : (s.setRdata v).chans = s.chans := rfl
@[simp] theorem State.setRdata_inputs (s : State) (v : Half) : (s.setRdata v).inputs = s.inputs := rfl

@[simp] theorem State.consume_gtick (s : State) : (s.consume).gtick = s.gtick := rfl
@[simp] theorem State.consume_ppqn (s : State) : (s.consume).ppqn = s.ppqn := rfl
@[simp] theorem State.consume_rng (s : State) : (s.consume).rng = s.rng := rfl
@[simp] theorem State.consume_status (s : State) : (s.consume).status = s.status := rfl
@[simp] theorem State.consume_paused (s : State) : (s.consume).paused = s.paused := rfl
@[simp] theorem State.consume_rdata (s : State) : (s.consume).rdata = s.rdata := rfl
@[simp] theorem State.consume_chans (s : State) : (s.consume).chans = s.chans := rfl
@[simp] theorem State.consume_inputs (s : State) : (s.consume).inputs = s.inputs.tail := rfl

@[simp] theorem State.present_gtick (s : State) (w : Word) : (s.present w).gtick = s.gtick := rfl
@[simp] theorem State.present_ppqn (s : State) (w : Word) : (s.present w).ppqn = s.ppqn := rfl
@[simp] theorem State.present_rng (s : State) (w : Word) : (s.present w).rng = s.rng := rfl
@[simp] theorem State.present_status (s : State) (w : Word) : (s.present w).status = s.status := rfl
@[simp] theorem State.present_paused (s : State) (w : Word) : (s.present w).paused = s.paused := rfl
@[simp] theorem State.present_rdata (s : State) (w : Word) : (s.present w).rdata = s.rdata := rfl
@[simp] theorem State.present_chans (s : State) (w : Word) : (s.present w).chans = s.chans := rfl
@[simp] theorem State.present_inputs (s : State) (w : Word) : (s.present w).inputs = ⟨false, true, w⟩ :: s.inputs := rfl

@[simp] theorem State.afterPar_gtick (s : State) (ch : Chan) (r : ParamRegs) : (s.afterPar ch r).gtick = s.gtick := rfl
@[simp] theorem State.afterPar_ppqn (s : State) (ch : Chan) (r : ParamRegs) : (s.afterPar ch r).ppqn = s.ppqn := rfl
@[simp] theorem State.afterPar_rng (s : State) (ch : Chan) (r : ParamRegs) : (s.afterPar ch r).rng = s.rng := rfl
@[simp] theorem State.afterPar_status (s : State) (ch : Chan) (r : ParamRegs) : (s.afterPar ch r).status = s.status := rfl
@[simp] theorem State.afterPar_paused (s : State) (ch : Chan) (r : ParamRegs) : (s.afterPar ch r).paused = s.paused := rfl
@[simp] theorem State.afterPar_rdata (s : State) (ch : Chan) (r : ParamRegs) : (s.afterPar ch r).rdata = 0 := rfl
@[simp] theorem State.afterPar_chans (s : State) (ch : Chan) (r : ParamRegs) : (s.afterPar ch r).chans = s.chans.set ch { s.chan ch with par := r } := rfl
@[simp] theorem State.afterPar_inputs (s : State) (ch : Chan) (r : ParamRegs) : (s.afterPar ch r).inputs = s.inputs := rfl

@[simp] theorem State.afterChan_gtick (s : State) (ch : Chan) (c : Channel) : (s.afterChan ch c).gtick = s.gtick := rfl
@[simp] theorem State.afterChan_ppqn (s : State) (ch : Chan) (c : Channel) : (s.afterChan ch c).ppqn = s.ppqn := rfl
@[simp] theorem State.afterChan_rng (s : State) (ch : Chan) (c : Channel) : (s.afterChan ch c).rng = s.rng := rfl
@[simp] theorem State.afterChan_status (s : State) (ch : Chan) (c : Channel) : (s.afterChan ch c).status = s.status := rfl
@[simp] theorem State.afterChan_paused (s : State) (ch : Chan) (c : Channel) : (s.afterChan ch c).paused = s.paused := rfl
@[simp] theorem State.afterChan_rdata (s : State) (ch : Chan) (c : Channel) : (s.afterChan ch c).rdata = 0 := rfl
@[simp] theorem State.afterChan_chans (s : State) (ch : Chan) (c : Channel) : (s.afterChan ch c).chans = s.chans.set ch c := rfl
@[simp] theorem State.afterChan_inputs (s : State) (ch : Chan) (c : Channel) : (s.afterChan ch c).inputs = s.inputs := rfl

@[simp] theorem raiseIllegal_gtick (s : State) : (raiseIllegal s).gtick = s.gtick := rfl
@[simp] theorem raiseIllegal_ppqn (s : State) : (raiseIllegal s).ppqn = s.ppqn := rfl
@[simp] theorem raiseIllegal_rng (s : State) : (raiseIllegal s).rng = s.rng := rfl
@[simp] theorem raiseIllegal_status (s : State) : (raiseIllegal s).status = s.status.setIll := rfl
@[simp] theorem raiseIllegal_paused (s : State) : (raiseIllegal s).paused = s.paused := rfl
@[simp] theorem raiseIllegal_rdata (s : State) : (raiseIllegal s).rdata = 0 := rfl
@[simp] theorem raiseIllegal_chans (s : State) : (raiseIllegal s).chans = s.chans := rfl
@[simp] theorem raiseIllegal_inputs (s : State) : (raiseIllegal s).inputs = s.inputs := rfl

@[simp] theorem raiseZeroPeriod_gtick (s : State) (z : Bool) : (raiseZeroPeriod z s).gtick = s.gtick := rfl
@[simp] theorem raiseZeroPeriod_ppqn (s : State) (z : Bool) : (raiseZeroPeriod z s).ppqn = s.ppqn := rfl
@[simp] theorem raiseZeroPeriod_rng (s : State) (z : Bool) : (raiseZeroPeriod z s).rng = s.rng := rfl
@[simp] theorem raiseZeroPeriod_status (s : State) (z : Bool) : (raiseZeroPeriod z s).status = s.status.orZper z := rfl
@[simp] theorem raiseZeroPeriod_paused (s : State) (z : Bool) : (raiseZeroPeriod z s).paused = s.paused := rfl
@[simp] theorem raiseZeroPeriod_rdata (s : State) (z : Bool) : (raiseZeroPeriod z s).rdata = s.rdata := rfl
@[simp] theorem raiseZeroPeriod_chans (s : State) (z : Bool) : (raiseZeroPeriod z s).chans = s.chans := rfl
@[simp] theorem raiseZeroPeriod_inputs (s : State) (z : Bool) : (raiseZeroPeriod z s).inputs = s.inputs := rfl

@[simp] theorem bumpGtick_gtick (s : State) : (bumpGtick s).gtick = s.gtick + 1 := rfl
@[simp] theorem bumpGtick_ppqn (s : State) : (bumpGtick s).ppqn = s.ppqn := rfl
@[simp] theorem bumpGtick_rng (s : State) : (bumpGtick s).rng = s.rng := rfl
@[simp] theorem bumpGtick_status (s : State) : (bumpGtick s).status = s.status := rfl
@[simp] theorem bumpGtick_paused (s : State) : (bumpGtick s).paused = s.paused := rfl
@[simp] theorem bumpGtick_rdata (s : State) : (bumpGtick s).rdata = s.rdata := rfl
@[simp] theorem bumpGtick_chans (s : State) : (bumpGtick s).chans = s.chans := rfl
@[simp] theorem bumpGtick_inputs (s : State) : (bumpGtick s).inputs = s.inputs := rfl

@[simp] theorem tickChannel_gtick (s : State) (p : Params) (g q : Nat) (ch : Chan) : (tickChannel p g q ch s).gtick = s.gtick := rfl
@[simp] theorem tickChannel_ppqn (s : State) (p : Params) (g q : Nat) (ch : Chan) : (tickChannel p g q ch s).ppqn = s.ppqn := rfl
@[simp] theorem tickChannel_rng (s : State) (p : Params) (g q : Nat) (ch : Chan) : (tickChannel p g q ch s).rng = (channelStep p g q (s.chan ch) s.rng).rng := rfl
@[simp] theorem tickChannel_status (s : State) (p : Params) (g q : Nat) (ch : Chan) : (tickChannel p g q ch s).status = s.status.orZper (channelStep p g q (s.chan ch) s.rng).zper := rfl
@[simp] theorem tickChannel_paused (s : State) (p : Params) (g q : Nat) (ch : Chan) : (tickChannel p g q ch s).paused = s.paused := rfl
@[simp] theorem tickChannel_rdata (s : State) (p : Params) (g q : Nat) (ch : Chan) : (tickChannel p g q ch s).rdata = s.rdata := rfl
@[simp] theorem tickChannel_chans (s : State) (p : Params) (g q : Nat) (ch : Chan) : (tickChannel p g q ch s).chans = s.chans.set ch (channelStep p g q (s.chan ch) s.rng).chan := rfl
@[simp] theorem tickChannel_inputs (s : State) (p : Params) (g q : Nat) (ch : Chan) : (tickChannel p g q ch s).inputs = s.inputs := rfl

end Sys2Proof.Machine
end

