-- ==== Sys2Proof/Laws/Channel.lean ====
section
/-! SUPPORT. Small lemmas of the channel record: one per field per update, true by rfl. -/

namespace Sys2Proof.Machine

@[simp] theorem disabledStep_chId (c : Channel) : (disabledStep c).chId = c.chId := rfl
@[simp] theorem disabledStep_kind (c : Channel) : (disabledStep c).kind = c.kind := rfl
@[simp] theorem disabledStep_par (c : Channel) : (disabledStep c).par = c.par := rfl
@[simp] theorem disabledStep_prevEn (c : Channel) : (disabledStep c).prevEn = c.prevEn := rfl
@[simp] theorem disabledStep_rhythm (c : Channel) : (disabledStep c).rhythm = c.rhythm := rfl
@[simp] theorem disabledStep_cursor (c : Channel) : (disabledStep c).cursor = c.cursor := rfl
@[simp] theorem disabledStep_render (c : Channel) : (disabledStep c).render = RenderState.reset := rfl
@[simp] theorem disabledStep_pend (c : Channel) : (disabledStep c).pend = false := rfl
@[simp] theorem disabledStep_extcnt (c : Channel) : (disabledStep c).extcnt = c.extcnt := rfl
@[simp] theorem disabledStep_gateOut (c : Channel) : (disabledStep c).gateOut = false := rfl
@[simp] theorem disabledStep_levelOut (c : Channel) : (disabledStep c).levelOut = offLevel c := rfl

@[simp] theorem countTick_chId (c : Channel) : (countTick c).chId = c.chId := rfl
@[simp] theorem countTick_kind (c : Channel) : (countTick c).kind = c.kind := rfl
@[simp] theorem countTick_par (c : Channel) : (countTick c).par = c.par := rfl
@[simp] theorem countTick_prevEn (c : Channel) : (countTick c).prevEn = c.prevEn := rfl
@[simp] theorem countTick_rhythm (c : Channel) : (countTick c).rhythm = c.rhythm := rfl
@[simp] theorem countTick_cursor (c : Channel) : (countTick c).cursor = c.cursor := rfl
@[simp] theorem countTick_render (c : Channel) : (countTick c).render = { c.render with elapsed := satInc c.render.elapsed } := rfl
@[simp] theorem countTick_pend (c : Channel) : (countTick c).pend = false := rfl
@[simp] theorem countTick_extcnt (c : Channel) : (countTick c).extcnt = c.extcnt := rfl
@[simp] theorem countTick_gateOut (c : Channel) : (countTick c).gateOut = c.gateOut := rfl
@[simp] theorem countTick_levelOut (c : Channel) : (countTick c).levelOut = c.levelOut := rfl

@[simp] theorem cutoffStep_chId (c : Channel) (d : Nat) : (cutoffStep c d).chId = c.chId := rfl
@[simp] theorem cutoffStep_kind (c : Channel) (d : Nat) : (cutoffStep c d).kind = c.kind := rfl
@[simp] theorem cutoffStep_par (c : Channel) (d : Nat) : (cutoffStep c d).par = c.par := rfl
@[simp] theorem cutoffStep_prevEn (c : Channel) (d : Nat) : (cutoffStep c d).prevEn = c.prevEn := rfl
@[simp] theorem cutoffStep_rhythm (c : Channel) (d : Nat) : (cutoffStep c d).rhythm = c.rhythm := rfl
@[simp] theorem cutoffStep_cursor (c : Channel) (d : Nat) : (cutoffStep c d).cursor = c.cursor := rfl
@[simp] theorem cutoffStep_render (c : Channel) (d : Nat) : (cutoffStep c d).render = { c.render with wstate := cutoff c.par.wave.cls c.render.wstate c.render.elapsed.toNat d } := rfl
@[simp] theorem cutoffStep_pend (c : Channel) (d : Nat) : (cutoffStep c d).pend = c.pend := rfl
@[simp] theorem cutoffStep_extcnt (c : Channel) (d : Nat) : (cutoffStep c d).extcnt = c.extcnt := rfl
@[simp] theorem cutoffStep_gateOut (c : Channel) (d : Nat) : (cutoffStep c d).gateOut = c.gateOut := rfl
@[simp] theorem cutoffStep_levelOut (c : Channel) (d : Nat) : (cutoffStep c d).levelOut = c.levelOut := rfl

@[simp] theorem storeRendered_chId (c : Channel) (r : Rendered) : (storeRendered c r).chId = c.chId := rfl
@[simp] theorem storeRendered_kind (c : Channel) (r : Rendered) : (storeRendered c r).kind = c.kind := rfl
@[simp] theorem storeRendered_par (c : Channel) (r : Rendered) : (storeRendered c r).par = c.par := rfl
@[simp] theorem storeRendered_prevEn (c : Channel) (r : Rendered) : (storeRendered c r).prevEn = c.prevEn := rfl
@[simp] theorem storeRendered_rhythm (c : Channel) (r : Rendered) : (storeRendered c r).rhythm = c.rhythm := rfl
@[simp] theorem storeRendered_cursor (c : Channel) (r : Rendered) : (storeRendered c r).cursor = c.cursor := rfl
@[simp] theorem storeRendered_render (c : Channel) (r : Rendered) : (storeRendered c r).render = { c.render with dir := r.dir, sample := r.smp, srWalk := r.srWalk, srFilt := r.srFilt } := rfl
@[simp] theorem storeRendered_pend (c : Channel) (r : Rendered) : (storeRendered c r).pend = c.pend := rfl
@[simp] theorem storeRendered_extcnt (c : Channel) (r : Rendered) : (storeRendered c r).extcnt = c.extcnt := rfl
@[simp] theorem storeRendered_gateOut (c : Channel) (r : Rendered) : (storeRendered c r).gateOut = c.gateOut := rfl
@[simp] theorem storeRendered_levelOut (c : Channel) (r : Rendered) : (storeRendered c r).levelOut = c.levelOut := rfl

@[simp] theorem latchGate_chId (c : Channel) : (latchGate c).chId = c.chId := rfl
@[simp] theorem latchGate_kind (c : Channel) : (latchGate c).kind = c.kind := rfl
@[simp] theorem latchGate_par (c : Channel) : (latchGate c).par = c.par := rfl
@[simp] theorem latchGate_prevEn (c : Channel) : (latchGate c).prevEn = c.prevEn := rfl
@[simp] theorem latchGate_rhythm (c : Channel) : (latchGate c).rhythm = c.rhythm := rfl
@[simp] theorem latchGate_cursor (c : Channel) : (latchGate c).cursor = c.cursor := rfl
@[simp] theorem latchGate_render (c : Channel) : (latchGate c).render = c.render := rfl
@[simp] theorem latchGate_pend (c : Channel) : (latchGate c).pend = c.pend := rfl
@[simp] theorem latchGate_extcnt (c : Channel) : (latchGate c).extcnt = c.extcnt := rfl
@[simp] theorem latchGate_gateOut (c : Channel) : (latchGate c).gateOut = !(c.render.wstate == .idle) := rfl
@[simp] theorem latchGate_levelOut (c : Channel) : (latchGate c).levelOut = c.levelOut := rfl

@[simp] theorem latch_chId (c : Channel) (b : Byte) : (latch c b).chId = c.chId := rfl
@[simp] theorem latch_kind (c : Channel) (b : Byte) : (latch c b).kind = c.kind := rfl
@[simp] theorem latch_par (c : Channel) (b : Byte) : (latch c b).par = c.par := rfl
@[simp] theorem latch_prevEn (c : Channel) (b : Byte) : (latch c b).prevEn = c.prevEn := rfl
@[simp] theorem latch_rhythm (c : Channel) (b : Byte) : (latch c b).rhythm = c.rhythm := rfl
@[simp] theorem latch_cursor (c : Channel) (b : Byte) : (latch c b).cursor = c.cursor := rfl
@[simp] theorem latch_render (c : Channel) (b : Byte) : (latch c b).render = c.render := rfl
@[simp] theorem latch_pend (c : Channel) (b : Byte) : (latch c b).pend = c.pend := rfl
@[simp] theorem latch_extcnt (c : Channel) (b : Byte) : (latch c b).extcnt = c.extcnt := rfl
@[simp] theorem latch_gateOut (c : Channel) (b : Byte) : (latch c b).gateOut = !(c.render.wstate == .idle) := rfl
@[simp] theorem latch_levelOut (c : Channel) (b : Byte) : (latch c b).levelOut = levelMap (latchGate c) b := rfl

@[simp] theorem regen_chId (c : Channel) : (regen c).chId = c.chId := rfl
@[simp] theorem regen_kind (c : Channel) : (regen c).kind = c.kind := rfl
@[simp] theorem regen_par (c : Channel) : (regen c).par = c.par := rfl
@[simp] theorem regen_prevEn (c : Channel) : (regen c).prevEn = c.prevEn := rfl
@[simp] theorem regen_rhythm (c : Channel) : (regen c).rhythm = c.par.pattern := rfl
@[simp] theorem regen_cursor (c : Channel) : (regen c).cursor = if c.par.seqLen ≤ c.cursor.toNat then 0 else c.cursor := rfl
@[simp] theorem regen_render (c : Channel) : (regen c).render = c.render := rfl
@[simp] theorem regen_pend (c : Channel) : (regen c).pend = c.pend := rfl
@[simp] theorem regen_extcnt (c : Channel) : (regen c).extcnt = c.extcnt := rfl
@[simp] theorem regen_gateOut (c : Channel) : (regen c).gateOut = c.gateOut := rfl
@[simp] theorem regen_levelOut (c : Channel) : (regen c).levelOut = c.levelOut := rfl

@[simp] theorem pauseChannel_chId (c : Channel) : (pauseChannel c).chId = c.chId := rfl
@[simp] theorem pauseChannel_kind (c : Channel) : (pauseChannel c).kind = c.kind := rfl
@[simp] theorem pauseChannel_par (c : Channel) : (pauseChannel c).par = { c.par with outEn := false } := rfl
@[simp] theorem pauseChannel_prevEn (c : Channel) : (pauseChannel c).prevEn = c.par.outEn := rfl
@[simp] theorem pauseChannel_rhythm (c : Channel) : (pauseChannel c).rhythm = c.rhythm := rfl
@[simp] theorem pauseChannel_cursor (c : Channel) : (pauseChannel c).cursor = c.cursor := rfl
@[simp] theorem pauseChannel_render (c : Channel) : (pauseChannel c).render = c.render := rfl
@[simp] theorem pauseChannel_pend (c : Channel) : (pauseChannel c).pend = c.pend := rfl
@[simp] theorem pauseChannel_extcnt (c : Channel) : (pauseChannel c).extcnt = c.extcnt := rfl
@[simp] theorem pauseChannel_gateOut (c : Channel) : (pauseChannel c).gateOut = c.gateOut := rfl
@[simp] theorem pauseChannel_levelOut (c : Channel) : (pauseChannel c).levelOut = c.levelOut := rfl

@[simp] theorem resumeChannel_chId (c : Channel) : (resumeChannel c).chId = c.chId := rfl
@[simp] theorem resumeChannel_kind (c : Channel) : (resumeChannel c).kind = c.kind := rfl
@[simp] theorem resumeChannel_par (c : Channel) : (resumeChannel c).par = { c.par with outEn := c.prevEn } := rfl
@[simp] theorem resumeChannel_prevEn (c : Channel) : (resumeChannel c).prevEn = c.prevEn := rfl
@[simp] theorem resumeChannel_rhythm (c : Channel) : (resumeChannel c).rhythm = c.rhythm := rfl
@[simp] theorem resumeChannel_cursor (c : Channel) : (resumeChannel c).cursor = c.cursor := rfl
@[simp] theorem resumeChannel_render (c : Channel) : (resumeChannel c).render = c.render := rfl
@[simp] theorem resumeChannel_pend (c : Channel) : (resumeChannel c).pend = c.pend := rfl
@[simp] theorem resumeChannel_extcnt (c : Channel) : (resumeChannel c).extcnt = c.extcnt := rfl
@[simp] theorem resumeChannel_gateOut (c : Channel) : (resumeChannel c).gateOut = c.gateOut := rfl
@[simp] theorem resumeChannel_levelOut (c : Channel) : (resumeChannel c).levelOut = c.levelOut := rfl

/-! ### What the parts of a start leave -/

@[simp] theorem afterFire_par (p : Params) (c : Channel) (rng : Word) : (afterFire p c rng).chan.par = c.par := by
  unfold afterFire; split <;> rfl

@[simp] theorem afterFire_render (p : Params) (c : Channel) (rng : Word) : (afterFire p c rng).chan.render = c.render := by
  unfold afterFire; split <;> rfl

/-- A firing start leaves the sub-state ACTIVE, `ELAPSED = 0`, and writes nothing but the render state. -/
theorem fireStart_spec (p : Params) (x : ChanRng) :
    ∃ hold, (fireStart p x).chan =
      { x.chan with render := { x.chan.render with elapsed := 0, sample := 0, wstate := .active, dir := true, shHold := hold } } ∧
      (x.chan.par.wave ≠ .sampleHold → hold = x.chan.render.shHold ∧ (fireStart p x).rng = x.rng) ∧
      (x.chan.par.wave = .sampleHold → hold = drawByte (p.rngStep x.rng) ∧ (fireStart p x).rng = p.rngStep x.rng) := by
  cases h : x.chan.par.wave <;> refine ⟨_, by simp only [fireStart, h]; rfl, ?_, ?_⟩ <;> simp [fireStart, h]

end Sys2Proof.Machine
end

