-- ==== Sys2Proof/Laws/Decode.lean ====
section
/-! SUPPORT. The fields of a word put together from four fields, and the channel a CH field names. -/

namespace Sys2Proof

/-- The upper part of two words put together. -/
theorem extract_upper {n m : Nat} (x : BitVec n) (y : BitVec m) : (x ++ y).extractLsb' m n = x := by
  ext i hi
  simp only [BitVec.getElem_extractLsb', BitVec.getLsbD_append, show ¬ m + i < m by omega, if_false,
    Nat.add_sub_cancel_left, BitVec.getLsbD_eq_getElem hi]

/-- Bits inside the lower part of two words put together. -/
theorem extract_lower {n m : Nat} (x : BitVec n) (y : BitVec m) (s k : Nat) (h : s + k ≤ m) :
    (x ++ y).extractLsb' s k = y.extractLsb' s k := by
  ext i hi
  simp only [BitVec.getElem_extractLsb', BitVec.getLsbD_append, show s + i < m by omega, if_true]

@[simp] theorem fieldOpc_wordOf (o : BitVec 8) (c a : BitVec 4) (d : Half) : fieldOpc (wordOf o c a d) = o :=
  extract_upper o (c ++ (a ++ d) : BitVec 24)

@[simp] theorem fieldCh_wordOf (o : BitVec 8) (c a : BitVec 4) (d : Half) : fieldCh (wordOf o c a d) = c :=
  (extract_lower o (c ++ (a ++ d) : BitVec 24) 20 4 (by decide)).trans (extract_upper c (a ++ d : BitVec 20))

@[simp] theorem fieldAddr_wordOf (o : BitVec 8) (c a : BitVec 4) (d : Half) : fieldAddr (wordOf o c a d) = a :=
  (extract_lower o (c ++ (a ++ d) : BitVec 24) 16 4 (by decide)).trans
    ((extract_lower c (a ++ d : BitVec 20) 16 4 (by decide)).trans (extract_upper a d))

@[simp] theorem fieldData_wordOf (o : BitVec 8) (c a : BitVec 4) (d : Half) : fieldData (wordOf o c a d) = d :=
  (extract_lower o (c ++ (a ++ d) : BitVec 24) 0 16 (by decide)).trans
    ((extract_lower c (a ++ d : BitVec 20) 0 16 (by decide)).trans
      ((extract_lower a d 0 16 (by decide)).trans (BitVec.extractLsb'_eq_self)))

@[simp] theorem chanOf_chanField (ch : Chan) : chanOf (chanField ch) = some ch := by
  fin_cases ch <;> decide

end Sys2Proof
end

