-- ==== Sys2Proof/Laws/Ops.lean ====
section
/-! SUPPORT. One lemma per shared operation that says what it answers: the ends of a command, the setters, a command step, a
command of a build, a channel step. Proofs cite these instead of unfolding the operations. -/

namespace Sys2Proof.Machine

/-- A command that is not a read answers the state with rdata 0. -/
theorem finish_eq_next {s t : State} (h : finish s = .next t) : t = { s with rdata := 0 } := by
  cases h; rfl

/-- A read answers the state with rdata the value read. -/
theorem finishRead_eq_next {s t : State} {v : Half} (h : finishRead s v = .next t) : t = { s with rdata := v } := by
  cases h; rfl

/-- A setter answers the state with its channel replaced and rdata 0. -/
theorem setter_eq (ch : Chan) (f : Channel → Channel) (s : State) :
    setter ch f s = .next (s.afterChan ch (f (s.chan ch))) := rfl

/-- A setter of parameter registers answers the state with those registers replaced and rdata 0. -/
theorem setPar_eq (ch : Chan) (f : ParamRegs → ParamRegs) (s : State) :
    setPar ch f s = .next (s.afterPar ch (f (s.chan ch).par)) := rfl

/-- REGEN at the end of a Euclidean setter, in the terms of `Channel.afterEuc`. -/
theorem regenIfEnabled_eq (c : Channel) (r : ParamRegs) : regenIfEnabled { c with par := r } = c.afterEuc r := rfl

/-- A Euclidean setter answers the state with its registers replaced and REGEN run when EUC_EN = 1. -/
theorem setEuc_eq (ch : Chan) (f : ParamRegs → ParamRegs) (s : State) :
    setEuc ch f s = .next (s.afterChan ch ((s.chan ch).afterEuc (f (s.chan ch).par))) := rfl

/-- A presented word runs its command or raises ILLEGAL, whatever executes commands. -/
theorem runWordBy_cases {run : Instr → State → Host.Outcome State Fault Refusal} {w : Word} {s t : State}
    (h : runWordBy run w s = .next t) :
    (∃ i, decode w = .ok i ∧ run i s = .next t) ∨ ((∃ e, decode w = .error e) ∧ t = raiseIllegal s) := by
  unfold runWordBy at h
  cases hd : decode w with
  | ok i => rw [hd] at h; exact .inl ⟨i, rfl, h⟩
  | error e => rw [hd] at h; cases h; exact .inr ⟨⟨e, rfl⟩, rfl⟩

/-- Everything a command step can do, whatever executes commands: reset, run a command, raise ILLEGAL, or nothing. -/
theorem stepBy_cases {p : Params} {run : Instr → State → Host.Outcome State Fault Refusal} {s t : State}
    (h : stepBy p run s = .next t) :
    (s.presented.rst = true ∧ t = applyReset p s.consume) ∨
    (s.presented.rst = false ∧ s.presented.cmdValid = true ∧
      ∃ i, decode s.presented.cmd = .ok i ∧ run i s.consume = .next t) ∨
    (s.presented.rst = false ∧ s.presented.cmdValid = true ∧ (∃ e, decode s.presented.cmd = .error e) ∧
      t = raiseIllegal s.consume) ∨
    (s.presented.rst = false ∧ s.presented.cmdValid = false ∧ t = s.consume) := by
  unfold stepBy at h
  split at h
  · next hr => cases h; exact .inl ⟨hr, rfl⟩
  · next hr =>
    have hr' : s.presented.rst = false := by simpa using hr
    split at h
    · next hv =>
      rcases runWordBy_cases h with ⟨i, hi, he⟩ | ⟨he, ht⟩
      · exact .inr (.inl ⟨hr', hv, i, hi, he⟩)
      · exact .inr (.inr (.inl ⟨hr', hv, he, ht⟩))
    · next hv => cases h; exact .inr (.inr (.inr ⟨hr', by simpa using hv, rfl⟩))

/-- A presented word runs its command or raises ILLEGAL. -/
theorem runWord_cases {w : Word} {s t : State} (h : runWord w s = .next t) :
    (∃ i, decode w = .ok i ∧ exec i s = .next t) ∨ ((∃ e, decode w = .error e) ∧ t = raiseIllegal s) := runWordBy_cases h

/-- Everything a command step can do: reset, run a command, raise ILLEGAL, or nothing. -/
theorem step_cases {s t : State} (h : step s = .next t) :
    (s.presented.rst = true ∧ t = applyReset defaultParams s.consume) ∨
    (s.presented.rst = false ∧ s.presented.cmdValid = true ∧
      ∃ i, decode s.presented.cmd = .ok i ∧ exec i s.consume = .next t) ∨
    (s.presented.rst = false ∧ s.presented.cmdValid = true ∧ (∃ e, decode s.presented.cmd = .error e) ∧
      t = raiseIllegal s.consume) ∨
    (s.presented.rst = false ∧ s.presented.cmdValid = false ∧ t = s.consume) := stepBy_cases h

/-- A command of a build reads a parameter, or has its one meaning. -/
theorem execWith_cases (p : Params) (i : Instr) (s : State) :
    (i = .tick ∧ execWith p i s = tickWith p s) ∨ (i = .extPulse ∧ execWith p i s = extPulseWith p s) ∨
    (∃ ch d, i = .setDiv ch d ∧ execWith p i s = setDivWith p ch d s) ∨
    (∃ ch d, i = .setSwingAmt ch d ∧ execWith p i s = setSwingAmtWith p ch d s) ∨ execWith p i s = exec i s := by
  cases i with
  | tick => exact .inl ⟨rfl, rfl⟩
  | extPulse => exact .inr (.inl ⟨rfl, rfl⟩)
  | setDiv ch d => exact .inr (.inr (.inl ⟨ch, d, rfl, rfl⟩))
  | setSwingAmt ch d => exact .inr (.inr (.inr (.inl ⟨ch, d, rfl, rfl⟩)))
  | _ => exact .inr (.inr (.inr (.inr rfl)))

/-- The build with the default parameters executes commands as `exec` does. -/
@[simp] theorem execWith_default (i : Instr) (s : State) : execWith defaultParams i s = exec i s := by
  cases i <;> rfl

/-- The build with the default parameters steps as `step` does. -/
@[simp] theorem stepWith_default (s : State) : stepWith defaultParams s = step s := by
  unfold stepWith step
  rw [show execWith defaultParams = exec from funext fun i => funext fun s => execWith_default i s]

/-- The build with the default parameters is the machine of the host's interface. -/
theorem coreWith_default : coreWith defaultParams = Sys2Proof.core := by
  unfold coreWith Sys2Proof.core
  rw [show stepWith defaultParams = step from funext stepWith_default]
  rfl

/-- A channel step is the disabled path, the zero-period guard, or the enabled step. -/
theorem channelStep_cases (p : Params) (g q : Nat) (c : Channel) (rng : Word) :
    (c.par.outEn = false ∧ channelStep p g q c rng = ⟨disabledStep c, rng, false⟩) ∨
    (c.par.outEn = true ∧ c.period p q = 0 ∧ channelStep p g q c rng = ⟨c, rng, true⟩) ∨
    (c.par.outEn = true ∧ c.period p q ≠ 0 ∧
      channelStep p g q c rng = ⟨(enabledStep p g q c rng).chan, (enabledStep p g q c rng).rng, false⟩) := by
  unfold channelStep
  cases h : c.par.outEn with
  | false => exact .inl ⟨rfl, rfl⟩
  | true =>
    by_cases hp : c.period p q = 0
    · exact .inr (.inl ⟨rfl, hp, by simp [hp]⟩)
    · exact .inr (.inr ⟨rfl, hp, by simp [hp]⟩)

/-- A start action is a firing or a silent start on what deciding the fire left. -/
theorem startStep_cases (p : Params) (b : Bool) (c : Channel) (rng : Word) :
    (b = false ∧ startStep p b c rng = ⟨c, rng⟩) ∨
    (b = true ∧ fires p c rng = true ∧ startStep p b c rng = fireStart p (afterFire p c rng)) ∨
    (b = true ∧ fires p c rng = false ∧ startStep p b c rng = silentStart (afterFire p c rng)) := by
  cases b with
  | false => exact .inl ⟨rfl, rfl⟩
  | true =>
    cases h : fires p c rng
    · exact .inr (.inr ⟨rfl, rfl, by simp [startStep, startAction, h]⟩)
    · exact .inr (.inl ⟨rfl, rfl, by simp [startStep, startAction, h]⟩)

/-- What the renderer hands back for an IDLE channel. -/
theorem render_idle (p : Params) (c : Channel) (e period d : Nat) (rng : Word) (h : c.render.wstate = .idle) :
    render p c e period d rng = plainRender c rng 0 false := by
  simp [render, h]

/-- What the renderer hands back for a channel that is not IDLE. -/
theorem render_live (p : Params) (c : Channel) (e period d : Nat) (rng : Word) (h : c.render.wstate ≠ .idle) :
    render p c e period d rng = renderShape p c e period d rng := by
  cases hw : c.render.wstate <;> simp_all [render]

end Sys2Proof.Machine
end

