-- ==== Sys2Proof/Laws/PerInstr.lean ====
section
/-! SUPPORT. The family TableRow: the word of every well-formed command meets the mask and the match of its row in
spec/opcode_table.json. One lemma per constructor of Instr. -/

namespace Sys2Proof.Laws

/-- The `mask` of a command's row in spec/opcode_table.json. -/
def rowMask : Instr → Word
  | .nop => 0xFFFFFFFF
  | .tick => 0xFFFFFFFF
  | .extPulse => 0xFFFFFFFF
  | .pause => 0xFFFFFFFF
  | .resume => 0xFFFFFFFF
  | .setPpqn _ => 0xFFFF0000
  | .clrGtick => 0xFFFFFFFF
  | .seed _ => 0xFFFF0000
  | .setDiv _ _ => 0xFFCF0000
  | .setDuty _ _ => 0xFFCF0000
  | .setPhase _ _ => 0xFFCF0000
  | .setLevel _ _ => 0xFFCF0000
  | .setOffset _ _ => 0xFFCF0000
  | .setSwingAmt _ _ => 0xFFCF0000
  | .setSwingEvery _ _ => 0xFFCF0000
  | .setProb _ _ => 0xFFCF0000
  | .setEucEn _ _ => 0xFFCF0000
  | .setEucSteps _ _ => 0xFFCF0000
  | .setEucTrig _ _ => 0xFFCF0000
  | .setEucRot _ _ => 0xFFCF0000
  | .setEucPad _ _ => 0xFFCF0000
  | .setWave _ _ => 0xFFCF0000
  | .setOutEn _ _ => 0xFFCF0000
  | .setExtclk _ _ => 0xFFCF0000
  | .rdOut _ => 0xFFCFFFFF
  | .rdParam _ _ => 0xFFC0FFFF
  | .rdState _ _ => 0xFFC0FFFF
  | .rdRhythm _ _ => 0xFFCCFFFF
  | .rdGlobal _ => 0xFFF0FFFF

/-- The `match` of a command's row in spec/opcode_table.json. -/
def rowMatch : Instr → Word
  | .nop => 0x00000000
  | .tick => 0x01000000
  | .extPulse => 0x02000000
  | .pause => 0x03000000
  | .resume => 0x04000000
  | .setPpqn _ => 0x05000000
  | .clrGtick => 0x06000000
  | .seed _ => 0x07000000
  | .setDiv _ _ => 0x10000000
  | .setDuty _ _ => 0x11000000
  | .setPhase _ _ => 0x12000000
  | .setLevel _ _ => 0x13000000
  | .setOffset _ _ => 0x14000000
  | .setSwingAmt _ _ => 0x15000000
  | .setSwingEvery _ _ => 0x16000000
  | .setProb _ _ => 0x17000000
  | .setEucEn _ _ => 0x18000000
  | .setEucSteps _ _ => 0x19000000
  | .setEucTrig _ _ => 0x1A000000
  | .setEucRot _ _ => 0x1B000000
  | .setEucPad _ _ => 0x1C000000
  | .setWave _ _ => 0x1D000000
  | .setOutEn _ _ => 0x1E000000
  | .setExtclk _ _ => 0x1F000000
  | .rdOut _ => 0x20000000
  | .rdParam _ _ => 0x21000000
  | .rdState _ _ => 0x22000000
  | .rdRhythm _ _ => 0x23000000
  | .rdGlobal _ => 0x24000000

/-- A well-formed command's word meets its row of the opcode table. -/
def TableRow.Statement (i : Instr) : Prop := i.wf = true → encode i &&& rowMask i = rowMatch i

/-- Conjunction acts on the two parts of a word apart. -/
theorem append_and {n m : Nat} (x x' : BitVec n) (y y' : BitVec m) : (x ++ y) &&& (x' ++ y') = (x &&& x') ++ (y &&& y') := by
  ext i hi
  simp only [BitVec.getElem_and, BitVec.getElem_append]
  split <;> simp

/-- A mask acts on each field of a word apart. -/
theorem wordOf_and (o o' : BitVec 8) (c c' a a' : BitVec 4) (d d' : Half) :
    wordOf o c a d &&& wordOf o' c' a' d' = wordOf (o &&& o') (c &&& c') (a &&& a') (d &&& d') :=
  (append_and o o' (c ++ (a ++ d) : BitVec 24) (c' ++ (a' ++ d') : BitVec 24)).trans
    (congrArg (fun z : BitVec 24 => (o &&& o') ++ z)
      ((append_and c c' (a ++ d : BitVec 20) (a' ++ d' : BitVec 20)).trans
        (congrArg (fun z : BitVec 20 => (c &&& c') ++ z) (append_and a a' d d'))))

theorem opc_mask (o : BitVec 8) : o &&& 0xFF = o := BitVec.and_allOnes
theorem chan_mask (ch : Chan) : chanField ch &&& 0xC = 0 := by fin_cases ch <;> decide
theorem nibble_zero (a : BitVec 4) : a &&& 0 = 0 := BitVec.and_zero
theorem half_zero (d : Half) : d &&& 0 = 0 := BitVec.and_zero
theorem zero_nibble (a : BitVec 4) : 0 &&& a = 0 := BitVec.zero_and
theorem zero_half (d : Half) : 0 &&& d = 0 := BitVec.zero_and

theorem gd_row (o : BitVec 8) (d : Half) : wordOf o 0 0 d &&& wordOf 0xFF 0xF 0xF 0 = wordOf o 0 0 0 := by
  rw [wordOf_and, opc_mask, half_zero, zero_nibble]

theorem cd_row (o : BitVec 8) (ch : Chan) (d : Half) :
    wordOf o (chanField ch) 0 d &&& wordOf 0xFF 0xC 0xF 0 = wordOf o 0 0 0 := by
  rw [wordOf_and, opc_mask, half_zero, zero_nibble, chan_mask]

theorem c0_row (o : BitVec 8) (ch : Chan) :
    wordOf o (chanField ch) 0 0 &&& wordOf 0xFF 0xC 0xF 0xFFFF = wordOf o 0 0 0 := by
  rw [wordOf_and, opc_mask, zero_half, zero_nibble, chan_mask]

theorem ca_row (o : BitVec 8) (ch : Chan) (a : BitVec 4) :
    wordOf o (chanField ch) a 0 &&& wordOf 0xFF 0xC 0 0xFFFF = wordOf o 0 0 0 := by
  rw [wordOf_and, opc_mask, zero_half, nibble_zero, chan_mask]

theorem ga_row (o : BitVec 8) (a : BitVec 4) : wordOf o 0 a 0 &&& wordOf 0xFF 0xF 0 0xFFFF = wordOf o 0 0 0 := by
  rw [wordOf_and, opc_mask, zero_half, nibble_zero, zero_nibble]

theorem rhythm_row (ch : Chan) (a : BitVec 4) : TableRow.Statement (.rdRhythm ch a) := by
  intro h
  have ha : a &&& 0xC = 0 := by
    have h3 : a.toNat ≤ 3 := by simpa [Instr.wf] using h
    clear h; revert a; decide
  change wordOf 0x23 (chanField ch) a 0 &&& wordOf 0xFF 0xC 0xC 0xFFFF = wordOf 0x23 0 0 0
  rw [wordOf_and, opc_mask, zero_half, ha, chan_mask]

theorem TableRow.nop : TableRow.Statement .nop := fun _ => by decide

theorem TableRow.tick : TableRow.Statement .tick := fun _ => by decide

theorem TableRow.extPulse : TableRow.Statement .extPulse := fun _ => by decide

theorem TableRow.pause : TableRow.Statement .pause := fun _ => by decide

theorem TableRow.resume : TableRow.Statement .resume := fun _ => by decide

theorem TableRow.setPpqn (d : Half) : TableRow.Statement (.setPpqn d) := fun _ => gd_row 0x05 d

theorem TableRow.clrGtick : TableRow.Statement .clrGtick := fun _ => by decide

theorem TableRow.seed (d : Half) : TableRow.Statement (.seed d) := fun _ => gd_row 0x07 d

theorem TableRow.setDiv (ch : Chan) (d : Half) : TableRow.Statement (.setDiv ch d) := fun _ => cd_row 0x10 ch d

theorem TableRow.setDuty (ch : Chan) (d : Half) : TableRow.Statement (.setDuty ch d) := fun _ => cd_row 0x11 ch d

theorem TableRow.setPhase (ch : Chan) (d : Half) : TableRow.Statement (.setPhase ch d) := fun _ => cd_row 0x12 ch d

theorem TableRow.setLevel (ch : Chan) (d : Half) : TableRow.Statement (.setLevel ch d) := fun _ => cd_row 0x13 ch d

theorem TableRow.setOffset (ch : Chan) (d : Half) : TableRow.Statement (.setOffset ch d) := fun _ => cd_row 0x14 ch d

theorem TableRow.setSwingAmt (ch : Chan) (d : Half) : TableRow.Statement (.setSwingAmt ch d) := fun _ => cd_row 0x15 ch d

theorem TableRow.setSwingEvery (ch : Chan) (d : Half) : TableRow.Statement (.setSwingEvery ch d) := fun _ => cd_row 0x16 ch d

theorem TableRow.setProb (ch : Chan) (d : Half) : TableRow.Statement (.setProb ch d) := fun _ => cd_row 0x17 ch d

theorem TableRow.setEucEn (ch : Chan) (d : Half) : TableRow.Statement (.setEucEn ch d) := fun _ => cd_row 0x18 ch d

theorem TableRow.setEucSteps (ch : Chan) (d : Half) : TableRow.Statement (.setEucSteps ch d) := fun _ => cd_row 0x19 ch d

theorem TableRow.setEucTrig (ch : Chan) (d : Half) : TableRow.Statement (.setEucTrig ch d) := fun _ => cd_row 0x1A ch d

theorem TableRow.setEucRot (ch : Chan) (d : Half) : TableRow.Statement (.setEucRot ch d) := fun _ => cd_row 0x1B ch d

theorem TableRow.setEucPad (ch : Chan) (d : Half) : TableRow.Statement (.setEucPad ch d) := fun _ => cd_row 0x1C ch d

theorem TableRow.setWave (ch : Chan) (d : Half) : TableRow.Statement (.setWave ch d) := fun _ => cd_row 0x1D ch d

theorem TableRow.setOutEn (ch : Chan) (d : Half) : TableRow.Statement (.setOutEn ch d) := fun _ => cd_row 0x1E ch d

theorem TableRow.setExtclk (ch : Chan) (d : Half) : TableRow.Statement (.setExtclk ch d) := fun _ => cd_row 0x1F ch d

theorem TableRow.rdOut (ch : Chan) : TableRow.Statement (.rdOut ch) := fun _ => c0_row 0x20 ch

theorem TableRow.rdParam (ch : Chan) (a : BitVec 4) : TableRow.Statement (.rdParam ch a) := fun _ => ca_row 0x21 ch a

theorem TableRow.rdState (ch : Chan) (a : BitVec 4) : TableRow.Statement (.rdState ch a) := fun _ => ca_row 0x22 ch a

theorem TableRow.rdRhythm (ch : Chan) (a : BitVec 4) : TableRow.Statement (.rdRhythm ch a) := rhythm_row ch a

theorem TableRow.rdGlobal (a : BitVec 4) : TableRow.Statement (.rdGlobal a) := fun _ => ga_row 0x24 a

end Sys2Proof.Laws
end

