-- ==== Sys2Proof/Tests/Slice0.lean ====
section
/-! SUPPORT. The model's own tests: the refusals of WellFormed and Decode, a word written out from spec/30_encoding.md for every
command, one step per command with results from spec/95_test_vectors.md or worked by hand from the rule named, and one
witness for every obligation that has hypotheses. -/

namespace Sys2Proof.Tests

open Sys2Proof Sys2Proof.Machine

/-! ### Helpers -/

/-- The next state of a command from `s`. -/
def ran (i : Instr) (s : State) : Option State :=
  match exec i s with
  | .next t => some t
  | .fault _ => none
  | .refused _ => none

/-- The next state of a step. -/
def stepped (s : State) : Option State :=
  match step s with
  | .next t => some t
  | .fault _ => none
  | .refused _ => none

/-- The reset state with channel `ch` changed. -/
def resetAt (ch : Chan) (f : Channel → Channel) : State := State.reset.setChan ch (f (State.reset.chan ch))

/-- The reset state with the parameter registers of channel `ch` changed. -/
def resetPar (ch : Chan) (f : ParamRegs → ParamRegs) : State := resetAt ch fun c => { c with par := f c.par }

/-- What a setter on channel 1 stores, from reset. -/
def stored {α : Type} (f : Half → Instr) (get : ParamRegs → α) (ds : List Half) : List (Option α) :=
  ds.map fun d => (ran (f d) State.reset).map fun t => get (t.chan 1).par

/-- What a read gives. -/
def readBack (i : Instr) (s : State) : Option Nat := (ran i s).map fun t => t.rdata.toNat

/-- The level of channel 2 (ANALOG, enabled, shape `w`) `e` ticks after a cycle start at PPQN 96 and x1, with the sub-state it had
before this TICK. -/
def shapeAt (w : Shape) (st : WState) (e : Nat) : Option (Nat × WState) :=
  let s := resetAt 2 fun c =>
    { c with par := { c.par with wave := w }, render := { c.render with wstate := st, elapsed := BitVec.ofNat 32 (e - 1) } }
  (ran .tick { s with gtick := BitVec.ofNat 32 e }).map fun t => ((t.levelPort 2).toNat, (t.chan 2).render.wstate)

/-! ### WellFormed: a read outside its space is ill formed (30_encoding.md R94) -/

theorem test_wf_refuses_state_9 : (Instr.rdState 0 9).wf = false := by decide
theorem test_wf_refuses_rhythm_4 : (Instr.rdRhythm 3 4).wf = false := by decide
theorem test_wf_refuses_global_7 : (Instr.rdGlobal 7).wf = false := by decide
theorem test_wf_takes_the_last_addresses :
    (Instr.rdState 0 8).wf = true ∧ (Instr.rdRhythm 0 3).wf = true ∧ (Instr.rdGlobal 6).wf = true ∧
    (Instr.rdParam 3 15).wf = true := by decide

/-! ### Decode: words written out from 30_encoding.md R90, R95, R96 (OPC, CH, ADDR, DATA) -/

theorem test_decode_nop : decode 0b00000000_0000_0000_0000000000000000 = .ok .nop := by decide
theorem test_decode_tick : decode 0b00000001_0000_0000_0000000000000000 = .ok .tick := by decide
theorem test_decode_extPulse : decode 0b00000010_0000_0000_0000000000000000 = .ok .extPulse := by decide
theorem test_decode_pause : decode 0b00000011_0000_0000_0000000000000000 = .ok .pause := by decide
theorem test_decode_resume : decode 0b00000100_0000_0000_0000000000000000 = .ok .resume := by decide
theorem test_decode_setPpqn : decode 0b00000101_0000_0000_0000000000011000 = .ok (.setPpqn 24) := by decide
theorem test_decode_clrGtick : decode 0b00000110_0000_0000_0000000000000000 = .ok .clrGtick := by decide
theorem test_decode_seed : decode 0b00000111_0000_0000_1011111011101111 = .ok (.seed 0xBEEF) := by decide
theorem test_decode_setDiv : decode 0b00010000_0011_0000_0000000000001110 = .ok (.setDiv 3 14) := by decide
theorem test_decode_setDuty : decode 0b00010001_0010_0000_0000000000011001 = .ok (.setDuty 2 25) := by decide
theorem test_decode_setPhase : decode 0b00010010_0000_0000_0000000000011001 = .ok (.setPhase 0 25) := by decide
theorem test_decode_setLevel : decode 0b00010011_0001_0000_1111111111111111 = .ok (.setLevel 1 0xFFFF) := by decide
theorem test_decode_setOffset : decode 0b00010100_0010_0000_0000000000110010 = .ok (.setOffset 2 50) := by decide
theorem test_decode_setSwingAmt : decode 0b00010101_0000_0000_0000000000000100 = .ok (.setSwingAmt 0 4) := by decide
theorem test_decode_setSwingEvery : decode 0b00010110_0001_0000_0000000000010000 = .ok (.setSwingEvery 1 16) := by decide
theorem test_decode_setProb : decode 0b00010111_0000_0000_0000000000110010 = .ok (.setProb 0 50) := by decide
theorem test_decode_setEucEn : decode 0b00011000_0000_0000_0000000000000001 = .ok (.setEucEn 0 1) := by decide
theorem test_decode_setEucSteps : decode 0b00011001_0001_0000_0000000001000000 = .ok (.setEucSteps 1 64) := by decide
theorem test_decode_setEucTrig : decode 0b00011010_0000_0000_0000000000000011 = .ok (.setEucTrig 0 3) := by decide
theorem test_decode_setEucRot : decode 0b00011011_0000_0000_0000000000000111 = .ok (.setEucRot 0 7) := by decide
theorem test_decode_setEucPad : decode 0b00011100_0001_0000_0000000000110000 = .ok (.setEucPad 1 48) := by decide
theorem test_decode_setWave : decode 0b00011101_0010_0000_0000000000001001 = .ok (.setWave 2 9) := by decide
theorem test_decode_setOutEn : decode 0b00011110_0011_0000_0000000000000000 = .ok (.setOutEn 3 0) := by decide
theorem test_decode_setExtclk : decode 0b00011111_0001_0000_0000000000000011 = .ok (.setExtclk 1 3) := by decide
theorem test_decode_rdOut : decode 0b00100000_0001_0000_0000000000000000 = .ok (.rdOut 1) := by decide
theorem test_decode_rdParam : decode 0b00100001_0011_1111_0000000000000000 = .ok (.rdParam 3 15) := by decide
theorem test_decode_rdState : decode 0b00100010_0011_0001_0000000000000000 = .ok (.rdState 3 1) := by decide
theorem test_decode_rdRhythm : decode 0b00100011_0000_0011_0000000000000000 = .ok (.rdRhythm 0 3) := by decide
theorem test_decode_rdGlobal : decode 0b00100100_0000_0011_0000000000000000 = .ok (.rdGlobal 3) := by decide

/-- The illegal words of 95_test_vectors.md V100 to V110, each refused under its own reason. -/
theorem test_decode_refuses_by_name :
    decode 0x08000000 = .error .reservedOpcode ∧ decode 0xFF000000 = .error .reservedOpcode ∧
    decode 0x25000000 = .error .reservedOpcode ∧ decode 0x01000001 = .error .nonzeroField ∧
    decode 0x10400005 = .error .badChannel ∧ decode 0x10010000 = .error .nonzeroField ∧
    decode 0x22090000 = .error .badAddress ∧ decode 0x23040000 = .error .badAddress ∧
    decode 0x24070000 = .error .badAddress ∧ decode 0x20010000 = .error .nonzeroField ∧
    decode 0x21000001 = .error .nonzeroField ∧ decode 0x05100018 = .error .nonzeroField := by decide

/-- 30_encoding.md R102's examples, encoded. -/
theorem test_encode_examples :
    encode (.setPpqn 24) = 0x05000018 ∧ encode (.setDuty 2 25) = 0x11200019 ∧ encode (.rdOut 1) = 0x20100000 ∧
    encode (.rdState 3 1) = 0x22310000 ∧ encode (.rdGlobal 3) = 0x24030000 := by decide

theorem test_decodeTableWord : decodeTableWord 32 0x11200019 = some (.setDuty 2 25) ∧ decodeTableWord 32 0x08000000 = none := by
  decide

/-! ### The step -/

theorem test_step_runs_the_presented_word :
    (stepped (State.reset.withFetchWord 32 0x1010FFFF)).map (fun t => ((t.chan 1).par.div, t.inputs)) = some (0, []) := by decide

/-- V100: a reserved opcode sets ILL and nothing else. -/
theorem test_step_illegal_word :
    stepped (State.reset.withFetchWord 32 0x08000000) = some { State.reset with status := ⟨true, false⟩ } := by decide

/-- 70_reset_and_hazards.md R360: with `rst = 1` the word is not executed. -/
theorem test_step_reset_wins :
    stepped { State.reset with gtick := 9, status := ⟨true, true⟩, inputs := [⟨true, true, 0x05000018⟩] } = some State.reset := by
  decide

/-! ### Commands, one step each -/

theorem test_nop : ran .nop { State.reset with rdata := 7 } = some State.reset := by decide

/-- V94 and V51: the first TICK raises every gate; channel 3 with `P = 0` keeps its state. -/
theorem test_tick_first :
    (ran .tick State.reset).map (fun t => (t.gatePort 0, t.levelPort 0, t.gatePort 2, t.levelPort 2, t.gtick)) =
      some (true, 255, true, 255, 1) := by decide
theorem test_tick_zero_period :
    (ran .tick { resetPar 3 (fun r => { r with div := 14 }) with ppqn := 24 }).map
      (fun t => (t.status, t.chan 3 == (resetPar 3 (fun r => { r with div := 14 })).chan 3, t.gtick)) =
      some (⟨false, true⟩, true, 1) := by decide

/-- V60, V64: pulses on a /4 and on a /2 channel in ext-div mode. -/
theorem test_extPulse :
    (ran .extPulse (resetPar 0 fun r => { r with div := 5, ext := true })).map
      (fun t => ((t.chan 0).extcnt, (t.chan 0).pend, (t.chan 1).extcnt)) = some (1, true, 0) := by decide
theorem test_extPulse_wraps :
    (ran .extPulse (resetAt 0 fun c => { c with par := { c.par with div := 7, ext := true }, extcnt := 1 })).map
      (fun t => ((t.chan 0).extcnt, (t.chan 0).pend)) = some (0, false) := by decide

/-- 44_control.md R291, R292. -/
theorem test_pause :
    (ran .pause (resetPar 1 fun r => { r with outEn := false })).map
      (fun t => (t.paused, [(t.chan 0).par.outEn, (t.chan 0).prevEn, (t.chan 1).par.outEn, (t.chan 1).prevEn])) =
      some (true, [false, true, false, false]) := by decide
theorem test_resume :
    (ran .resume { resetAt 1 (fun c => { c with prevEn := false }) with paused := true }).map
      (fun t => (t.paused, (t.chan 0).par.outEn, (t.chan 1).par.outEn)) = some (false, true, false) := by decide

/-- V95, V96, V97. -/
theorem test_setPpqn :
    ([0, 0xFFFB, 0x7FFF, 0x8000, 0xFFFF, 24] : List Half).map (fun d => (ran (.setPpqn d) State.reset).map State.ppqn) =
      [some 1, some 1, some 32767, some 1, some 1, some 24] := by decide
theorem test_clrGtick : ran .clrGtick { State.reset with gtick := 10 } = some State.reset := by decide
theorem test_seed :
    ([0, 0xBEEF] : List Half).map (fun d => (ran (.seed d) State.reset).map State.rng) = [some 1, some 0x0000BEEF] := by decide

/-- V20 to V35: operands on channel 1 and what they store. -/
theorem test_setDiv : stored (.setDiv 1) ParamRegs.div [0xFFFF, 14, 15, 100] = [some 0, some 14, some 14, some 14] := by decide
theorem test_setDiv_ext :
    (ran (.setDiv 0 3) (resetPar 0 fun r => { r with ext := true })).map (fun t => (t.chan 0).par.div) = some 8 := by decide
theorem test_setDuty :
    stored (.setDuty 1) ParamRegs.duty [0, 99, 100, 0xFFF9] = [some 1, some 99, some 99, some 1] := by decide
theorem test_setPhase : stored (.setPhase 1) ParamRegs.phase [0xFFFF, 100, 101] = [some 0, some 100, some 100] := by decide
theorem test_setLevel : stored (.setLevel 1) ParamRegs.level [0xFFFF, 101] = [some 0, some 100] := by decide
theorem test_setOffset : stored (.setOffset 1) ParamRegs.offset [0xFFFF, 101] = [some 0, some 100] := by decide
theorem test_setSwingAmt : stored (.setSwingAmt 1) ParamRegs.swingAmt [0xFFFF, 6, 7] = [some 0, some 6, some 6] := by decide
theorem test_setSwingEvery :
    stored (.setSwingEvery 1) ParamRegs.swingEvery [0, 16, 17] = [some 1, some 16, some 16] := by decide
theorem test_setProb : stored (.setProb 1) ParamRegs.prob [0xFFFF, 101] = [some 0, some 100] := by decide
theorem test_setEucEn : stored (.setEucEn 1) ParamRegs.eucEn [0xFFFF, 2] = [some false, some true] := by decide
/-- V15: enabling regenerates the pattern of 8 steps and 3 triggers. -/
theorem test_setEucEn_regen :
    (ran (.setEucEn 0 1) (resetPar 0 fun r => { r with eucSteps := 8, eucTrig := 3 })).map (fun t => (t.chan 0).rhythm) =
      some 0x49 := by decide
theorem test_setEucSteps :
    stored (.setEucSteps 1) ParamRegs.eucSteps [0, 64, 65] = [some 1, some 64, some 64] := by decide
/-- V36: the dependent fields are lowered. -/
theorem test_setEucSteps_lowers :
    (ran (.setEucSteps 0 5) (resetPar 0 fun r => { r with eucRot := 12, eucPad := 40, eucTrig := 10 })).map
      (fun t => ((t.chan 0).par.eucSteps, (t.chan 0).par.eucTrig, (t.chan 0).par.eucRot, (t.chan 0).par.eucPad)) =
      some (5, 5, 4, 40) := by decide
theorem test_setEucTrig : stored (.setEucTrig 1) ParamRegs.eucTrig [0, 16, 17] = [some 1, some 16, some 16] := by decide
theorem test_setEucRot : stored (.setEucRot 1) ParamRegs.eucRot [0xFFFF, 15, 16] = [some 0, some 15, some 15] := by decide
/-- V13a: the rotation 7 of the pattern of 8 steps and 3 triggers. -/
theorem test_setEucRot_regen :
    (ran (.setEucRot 0 7) (resetPar 0 fun r => { r with eucEn := true, eucSteps := 8, eucTrig := 3, eucRot := 1 })).map
      (fun t => (t.chan 0).rhythm) = some 0x92 := by decide
theorem test_setEucPad : stored (.setEucPad 1) ParamRegs.eucPad [0xFFFF, 48, 49] = [some 0, some 48, some 48] := by decide
theorem test_setWave :
    stored (.setWave 1) ParamRegs.wave [0xFFFF, 9, 10] = [some .gate, some .sampleHold, some .sampleHold] := by decide
theorem test_setOutEn : stored (.setOutEn 1) ParamRegs.outEn [0xFFFF, 5] = [some false, some true] := by decide
/-- 41_setters.md R164: during a master pause the snapshot is written. -/
theorem test_setOutEn_paused :
    (ran (.setOutEn 2 0) { State.reset with paused := true }).map (fun t => ((t.chan 2).par.outEn, (t.chan 2).prevEn)) =
      some (true, false) := by decide
theorem test_setExtclk : stored (.setExtclk 1) ParamRegs.ext [3, 0xFFFF] = [some true, some false] := by decide
/-- V61, V62: the counter and the mark go only when the flag changes. -/
theorem test_setExtclk_clears :
    ([1, 0] : List Half).map (fun d =>
      (ran (.setExtclk 0 d) (resetAt 0 fun c => { c with par := { c.par with ext := true }, extcnt := 2, pend := true })).map
        fun t => ((t.chan 0).extcnt, (t.chan 0).pend)) = [some (2, true), some (0, false)] := by decide

/-- V90 to V94. -/
theorem test_rdOut : readBack (.rdOut 0) (resetAt 0 fun c => { c with gateOut := true, levelOut := 255 }) = some 0x01FF := by decide
theorem test_rdParam :
    (List.range 16).map (fun a => readBack (.rdParam 0 (BitVec.ofNat 4 a)) State.reset) =
      [8, 50, 0, 100, 0, 0, 2, 100, 0, 16, 4, 0, 0, 0, 1, 0].map some := by decide
theorem test_rdState :
    (List.range 9).map (fun a => readBack (.rdState 2 (BitVec.ofNat 4 a)) State.reset) =
      [0, 0, 0, 0xB0, 0, 0, 0x80, 0x8000, 0].map some := by decide
theorem test_rdState_identity :
    ([0, 1, 3] : List Chan).map (fun ch => readBack (.rdState ch 3) State.reset) = [some 0x10, some 0x50, some 0xF0] := by decide
theorem test_rdRhythm :
    (List.range 4).map (fun a => readBack (.rdRhythm 0 (BitVec.ofNat 4 a)) State.reset) = [0x1111, 0, 0, 0].map some := by decide
theorem test_rdGlobal :
    (List.range 7).map (fun a => readBack (.rdGlobal (BitVec.ofNat 4 a)) State.reset) = [0x60, 0, 0, 0, 0, 1, 0].map some := by
  decide

/-! ### The Euclidean generator, the tables, the random generator and the shapes -/

/-- V1 to V12. -/
theorem test_gen :
    [gen 8 3 0 0, gen 4 4 0 0, gen 8 5 0 0, gen 16 4 0 0, gen 8 3 1 0, gen 8 3 2 2, gen 13 5 0 3, gen 16 7 0 0] =
      [0x49, 0xF, 0x6D, 0x1111, 0xA4, 0x52, 0x529, 0x54A9] := by decide
theorem test_gen_more :
    [gen 12 5 3 0, gen 9 4 0 0, gen 16 9 0 0, gen 64 1 0 0, gen 1 1 0 63] = [0x2A5, 0x55, 0x56AD, 1, 1] := by decide +kernel

/-- The tables have 257 entries and the sums stated with 43_waveform.md R270 to R273; SINE is symmetric, LOG mirrors EXP. -/
theorem test_table_sums :
    [sineLut, halfLut, expLut, logLut].map (fun t => (t.length, t.sum)) =
      [(257, 32641), (257, 41561), (257, 15226), (257, 50309)] := by decide +kernel
theorem test_table_mirrors :
    sineLut.reverse = sineLut ∧ halfLut.reverse = halfLut ∧ logLut.reverse = expLut.map (255 - ·) := by decide +kernel

/-- V82. -/
theorem test_luti :
    [luti sineLut 0x4080, luti sineLut 0x8000, luti sineLut 0xFFFF, luti halfLut 0x8000, luti expLut 0x180, luti logLut 0x4000] =
      [129, 255, 0, 255, 249, 247] := by decide

/-- V83. -/
theorem test_sineWarp :
    [sineWarpDefault 25 64, sineWarpDefault 75 64, sineWarpDefault 50 200, sineWarpDefault 99 128, sineWarpDefault 1 1,
      sineWarpDefault 1 254] = [38, 83, 200, 128, 0, 255] := by decide

/-- The first generator states and draws after reset (95_test_vectors.md). -/
theorem test_xorshift32 :
    [xorshift32 1, xorshift32 0x00042021, xorshift32 0x04080601, xorshift32 0x9DCCA8C5] =
      [0x00042021, 0x04080601, 0x9DCCA8C5, 0x1255994F] := by decide
theorem test_draws :
    [draw100 0x00042021, draw100 0x04080601, draw100 0x9DCCA8C5, draw100 0x1255994F] = [0, 1, 61, 7] ∧
    [drawByte 0x00042021, drawByte 0x04080601, drawByte 0x9DCCA8C5, drawByte 0x1255994F] = [0, 4, 157, 18] := by decide

/-- V71, V73, V74: TRIANGLE, PARABOLIC and SAWTOOTH at 12 ticks, and at the duty point 48. -/
theorem test_shape_linear :
    [shapeAt .triangle .active 12, shapeAt .parabolic .active 12, shapeAt .sawtooth .active 12] =
      [some (63, .active), some (180, .active), some (63, .active)] ∧
    [shapeAt .triangle .active 48, shapeAt .parabolic .active 48, shapeAt .sawtooth .active 48] =
      [some (255, .active), some (0, .idle), some (0, .idle)] := by decide

/-- V75, V76: the envelopes decay from tick 1 and end at the duty point. -/
theorem test_shape_envelope :
    [shapeAt .expEnv .active 1, shapeAt .expEnv .decaying 24, shapeAt .expEnv .decaying 48, shapeAt .logEnv .decaying 36] =
      [some (234, .decaying), some (30, .decaying), some (0, .idle), some (164, .decaying)] := by decide

/-- V72: SINE at 36 ticks. -/
theorem test_shape_sine : shapeAt .sine .active 36 = some (218, .active) := by decide

/-- 43_waveform.md R261 from reset (V78): the walk and the filter of the drawn bytes 18 and 0. -/
theorem test_smooth_random :
    smoothWalk defaultParams 128 18 = 130 ∧ smoothWalk defaultParams 5 0 = 0 ∧ smoothWalk defaultParams 250 32 = 255 ∧
    smoothFilt defaultParams 0x8000 130 = 0x8080 ∧ smoothFilt defaultParams 1 0 = 0 := by decide

/-- 30_encoding.md R102: the text of a command and the DATA field of a value. -/
theorem test_assembler :
    instrText (.setDuty 2 25) = "SET_DUTY 2, 25" ∧ instrText (.setLevel 2 0xFFFB) = "SET_LEVEL 2, -5" ∧
    asmValue (-32768) = some 0x8000 ∧ asmValue 65536 = none ∧ asmSeed (-1) = none ∧
    expandPseudo (.rdElapsed 3) = [.rdState 3 1, .rdState 3 2] := by decide

/-! ### Witnesses: a state and operands that meet the hypotheses of each obligation that has them -/

theorem test_witness_DecodeOfEncodeIsTheCommand :
    (Instr.rdState 3 8).wf = true ∧ (Instr.rdRhythm 0 3).wf = true ∧ (Instr.rdGlobal 6).wf = true ∧
    (Instr.setDiv 3 0xFFFF).wf = true := by decide

theorem test_witness_EncodeOfDecodeIsTheWord :
    decode 0x22380000 = .ok (.rdState 3 8) ∧ decode 0x1F30FFFF = .ok (.setExtclk 3 0xFFFF) := by decide

/-- A state with one port value to take. -/
def presenting (rst valid : Bool) (w : Word) : State := { State.reset with inputs := [⟨rst, valid, w⟩] }

theorem test_witness_StepRunsTheDecodedCommand :
    (presenting false true 0x24060000).inputs = ⟨false, true, 0x24060000⟩ :: [] ∧
    decode 0x24060000 = .ok (.rdGlobal 6) ∧ (Instr.rdGlobal 6).wf = true := by decide

/-- One word just outside each row of the table of legal words. -/
theorem test_witness_IllegalWordSetsIllOnly :
    ¬ LegalWord 0x24070000 ∧
    ¬ LegalWord 0x08000000 ∧ ¬ LegalWord 0x25000000 ∧ ¬ LegalWord 0x10400000 ∧ ¬ LegalWord 0x05010000 ∧
    ¬ LegalWord 0x22090000 ∧ ¬ LegalWord 0x23040000 ∧ ¬ LegalWord 0x20000001 := by
  refine ⟨?_, ?_, ?_, ?_, ?_, ?_, ?_, ?_⟩ <;> simp only [LegalWord] <;> decide

theorem test_witness_InvalidCommandChangesNothing :
    State.reset.inputs = [] ∧ (presenting false false 0x01000000).inputs = ⟨false, false, 0x01000000⟩ :: [] := by decide

theorem test_witness_ResetStepGivesResetState :
    (presenting true true 0x01000000).inputs = ⟨true, true, 0x01000000⟩ :: [] := by decide

/-- A state other than reset that has the invariant: channel 2 in Euclidean mode with the pattern of 8 steps and 3 triggers, pad 2
and the last cursor of its sequence; PPQN at its greatest value; a word presented. -/
def livelyState : State :=
  { resetAt 2 (fun c => { c with
      par := { c.par with eucEn := true, eucSteps := 8, eucTrig := 3, eucPad := 2, div := 14, duty := 99 }
      rhythm := 0x49, cursor := 9, render := { c.render with srFilt := 0xFF00 } }) with
    ppqn := 32767, rng := 0xFFFFFFFF, inputs := [⟨false, true, 0x01000000⟩] }

theorem livelyState_par (ch : Chan) : (livelyState.chan ch).par.Legal defaultParams := by
  fin_cases ch <;> constructor <;> decide

theorem livelyState_inv : State.Inv defaultParams livelyState := by
  refine ⟨by decide, by decide, by decide, fun ch => ?_⟩
  refine ⟨?_, ?_, livelyState_par ch, ?_, ?_, ?_, ?_, ?_, ?_, ?_⟩ <;> revert ch <;> decide

/-- Other legal parameters than the defaults: one ratio, one swing entry, a generator and a warp that do nothing. -/
def plainParams : Params where
  divTable   := [⟨1, 1⟩]
  idxX1      := 0
  swingTable := [0]
  chKind     := fun _ => .analog
  rngStep    := fun x => x
  sineWarp   := fun _ s => s
  srStep     := 1
  srK        := 0

theorem plainParams_legal : plainParams.Legal := by
  refine ⟨⟨by decide, by decide, by decide, by decide, by decide, ?_, by decide, ?_⟩, ⟨by decide, by decide, rfl, by decide⟩,
    fun x h => h, ⟨fun s _ => rfl, fun d _ _ => ⟨rfl, rfl⟩, fun d s t _ _ h _ => h, ?_⟩⟩
  · intro i hi; obtain rfl : i = 0 := by simpa [Params.nDiv, plainParams] using hi
    decide
  · intro i _ hi; obtain rfl : i = 0 := by simpa [Params.nDiv, plainParams] using hi
    decide
  · intro d s _ _ h; show s + (255 - s) = 255; omega

theorem plainState_par (ch : Chan) : ((State.resetWith plainParams).chan ch).par.Legal plainParams := by
  fin_cases ch <;> constructor <;> decide

theorem plainState_inv : State.Inv plainParams (State.resetWith plainParams) := by
  refine ⟨by decide, by decide, by decide, fun ch => ?_⟩
  refine ⟨?_, ?_, plainState_par ch, ?_, ?_, ?_, ?_, ?_, ?_, ?_⟩ <;> revert ch <;> decide

theorem test_witness_ResetKeepsTheMachineInvariant : plainParams.Legal := plainParams_legal

/-- A step of the default build, and one of another legal build. -/
theorem test_witness_EveryStepKeepsTheMachineInvariant :
    (State.Inv defaultParams livelyState ∧ ∃ t, step livelyState = .next t) ∧
    (plainParams.Legal ∧ State.Inv plainParams (State.resetWith plainParams) ∧
      ∃ t, stepWith plainParams (State.resetWith plainParams) = .next t) :=
  ⟨⟨livelyState_inv, _, rfl⟩, plainParams_legal, plainState_inv, _, rfl⟩

/-- 00_scope.md R10: the word SET_DIV 1, 5 in two builds. It clamps to the only entry of the other build's table and stores 5 in the
default build; channel 1 is ANALOG in the other build and DIGITAL in the default one. -/
theorem test_stepWith_other_build :
    (match stepWith plainParams ((State.resetWith plainParams).present 0x10100005) with
      | .next t => some ((t.chan 1).par.div, (t.chan 1).kind)
      | .fault _ => none
      | .refused _ => none) = some (0, .analog) ∧
    (stepped (State.reset.present 0x10100005)).map (fun t => ((t.chan 1).par.div, (t.chan 1).kind)) = some (5, .digital) := by
  decide

theorem test_witness_ParameterCommandsKeepInvariantForAnyLegalParams :
    plainParams.Legal ∧ State.Inv plainParams (State.resetWith plainParams) ∧
    ∃ t, tickWith plainParams (State.resetWith plainParams) = .next t :=
  ⟨plainParams_legal, plainState_inv, _, rfl⟩

/-- EUC_STEPS at both ends of its range. -/
theorem test_witness_EuclideanSettersClampAgainstSteps :
    ([1, 64] : List (BitVec 7)).all (fun n =>
      let c := (resetPar 0 fun r => { r with eucSteps := n }).chan 0
      decide (1 ≤ c.par.eucSteps.toNat ∧ c.par.eucSteps.toNat ≤ 64)) = true := by decide

theorem test_witness_EverySetterIsClampedLocalAndIdempotent :
    (Instr.setEucSteps 3 0xFFFF).setterChan = some 3 ∧ (∃ t, exec (.setEucSteps 3 0xFFFF) livelyState = .next t) ∧
    (livelyState.chan 3).par.Legal defaultParams :=
  ⟨rfl, ⟨_, rfl⟩, livelyState_par 3⟩

theorem test_witness_RestoreSequenceRoundTrips :
    (livelyState.chan 2).par.Legal defaultParams ∧ State.reset.paused = false ∧ (livelyState.chan 2).par.eucEn = true :=
  ⟨livelyState_par 2, rfl, by decide⟩

theorem test_witness_PauseAndResumeMoveTheEnables : State.reset.paused = false ∧ { State.reset with paused := true }.paused = true :=
  ⟨rfl, rfl⟩

theorem test_witness_PauseThenResumeRestoresOutEn :
    State.reset.paused = false ∧ (∀ i ∈ ([.tick, .pause, .setDuty 0 3, .resume, .tick] : List Instr), i.isSetOutEn = false) ∧
    { State.reset with paused := true }.paused = true := by decide

theorem test_witness_GlobalRegistersHaveOnlyTheirWriters :
    (∃ t, exec (.setPpqn 24) State.reset = .next t) ∧ (∃ t, exec (.rdState 0 8) State.reset = .next t) ∧
    (Instr.rdState 0 8).wf = true ∧ (Instr.setPpqn 24).isRead = false :=
  ⟨⟨_, rfl⟩, ⟨_, rfl⟩, rfl, rfl⟩

/-- The first and the last address of each space, for the four statements about reads. -/
theorem test_witness_RdStateReadsTheStateSpace : (0 : BitVec 4).toNat ≤ 8 ∧ (8 : BitVec 4).toNat ≤ 8 := by decide
theorem test_witness_RdRhythmReadsTheSteps : (0 : BitVec 4).toNat ≤ 3 ∧ (3 : BitVec 4).toNat ≤ 3 ∧ 0 < 16 ∧ 15 < 16 := by decide
theorem test_witness_RdGlobalReadsTheGlobalSpace : (0 : BitVec 4).toNat ≤ 6 ∧ (6 : BitVec 4).toNat ≤ 6 := by decide

theorem test_witness_ReadsHaveNoSideEffects :
    (Instr.rdState 1 8).isRead = true ∧ (Instr.rdState 1 8).wf = true ∧ (∃ t, exec (.rdState 1 8) State.reset = .next t) ∧
    (Instr.rdState 1 9).isRead = true ∧ (Instr.rdState 1 9).wf = false ∧ (∃ t, exec (.rdState 1 9) State.reset = .next t) :=
  ⟨rfl, rfl, ⟨_, rfl⟩, rfl, rfl, ⟨_, rfl⟩⟩

theorem test_witness_TickKeepsParametersAndIdentity : (State.reset.chan 0).par.eucEn = false := by decide

/-- OFFSET at both ends of its range. -/
theorem test_witness_DisabledChannelIsForcedOff :
    ([0, 100] : List (BitVec 7)).all (fun o =>
      let c := (resetPar 3 fun r => { r with outEn := false, offset := o }).chan 3
      decide (c.par.outEn = false ∧ c.par.offset.toNat ≤ 100)) = true := by decide

/-- PPQN 31 with the ratio x32 is the last zero period; and every channel disabled. -/
theorem test_witness_ZeroPeriodKeepsTheChannel :
    (let s := { resetPar 3 (fun r => { r with div := 14 }) with ppqn := 31 }
     (s.chan 3).par.outEn = true ∧
     s.ppqn.toNat * (defaultParams.ratio (s.chan 3).par.div.toNat).den / (defaultParams.ratio (s.chan 3).par.div.toNat).num = 0) ∧
    ∀ c, ({ State.reset with chans := State.reset.chans.map pauseChannel }.chan c).par.outEn = false := by decide

/-- A start and no start on the internal path (`G` = 0 and 1), and both in ext-div mode; the period 1 in the first. -/
theorem test_witness_ElapsedRestartsExactlyAtCycleStarts :
    (let s := { resetPar 0 (fun r => { r with div := 14 }) with ppqn := 32 }
     let c := s.chan 0
     c.par.outEn = true ∧ 1 ≤ s.ppqn.toNat * (defaultParams.ratio c.par.div.toNat).den / (defaultParams.ratio c.par.div.toNat).num ∧
     s.gtick.toNat = 0) ∧
    (State.reset.chan 0).starts defaultParams 0 96 = true ∧ (State.reset.chan 0).starts defaultParams 1 96 = false ∧
    (let e := (resetAt 0 fun c => { c with par := { c.par with div := 7, ext := true }, pend := true }).chan 0
     e.par.ext = true ∧ (defaultParams.ratio e.par.div.toNat).num < (defaultParams.ratio e.par.div.toNat).den ∧
     e.starts defaultParams 5 96 = true ∧ { e with pend := false }.starts defaultParams 0 96 = false) := by decide

theorem test_witness_SwungCyclesStartLater :
    47 + 48 < 96 ∧ startTest 95 96 (displacement 95 96 47 48 1) = true ∧ startTest 94 96 (displacement 94 96 47 48 1) = false := by
  decide

/-- A start that consults a step, and a TICK that is no start; a sequence of 64. -/
theorem test_witness_EuclideanStartConsultsRhythm :
    (let c := (resetPar 0 fun r => { r with eucEn := true, eucPad := 48 }).chan 0
     c.par.outEn = true ∧ c.par.eucEn = true ∧ 1 ≤ c.period defaultParams 96 ∧ c.par.seqLen ≤ 64) ∧
    (ran .tick (resetPar 0 fun r => { r with eucEn := true, eucPad := 48 })).map (fun t => (t.chan 0).render.elapsed) = some 0 ∧
    (ran .tick { resetPar 0 (fun r => { r with eucEn := true }) with gtick := 1 }).map (fun t => (t.chan 0).render.elapsed) =
      some 1 := by decide

theorem test_witness_ProbabilityGateFiresBelowProb :
    ([0, 100] : List (BitVec 7)).all (fun p =>
      let c := (resetPar 0 fun r => { r with prob := p }).chan 0
      decide (c.par.outEn = true ∧ c.par.eucEn = false ∧ 1 ≤ c.period defaultParams 96 ∧ c.starts defaultParams 0 96 = true ∧
        (c.par.prob.toNat = 0 ∨ c.par.prob.toNat = 100))) = true := by decide

/-- Each row of the sub-state table is met: disabled; zero period; a start that does not fire (PROB 0); no start while IDLE; a firing
start and a running channel of each class. -/
theorem test_witness_SubStateMachineFollowsTheTable :
    ((resetPar 0 fun r => { r with outEn := false }).chan 0).par.outEn = false ∧
    ((resetPar 0 fun r => { r with div := 14 }).chan 0).period defaultParams 31 = 0 ∧
    (let c := (resetPar 0 fun r => { r with prob := 0 }).chan 0
     c.starts defaultParams 0 96 = true ∧ ¬ (xorshift32 1).toNat * 100 / 2 ^ 32 < c.par.prob.toNat) ∧
    ((State.reset.chan 0).starts defaultParams 1 96 = false ∧ (State.reset.chan 0).render.wstate = .idle) ∧
    (State.reset.chan 0).starts defaultParams 0 96 = true ∧
    (xorshift32 1).toNat * 100 / 2 ^ 32 < (State.reset.chan 0).par.prob.toNat ∧
    [Shape.gate.cls, Shape.expEnv.cls, Shape.sine.cls] = [.gateLike, .envelope, .continuous] := by decide

/-- A channel of each shape, running, and an IDLE one; DUTY at both ends. -/
theorem test_witness_ChannelStepRendersItsShape :
    ([1, 99] : List (BitVec 7)).all (fun d =>
      let c := (resetPar 2 fun r => { r with duty := d }).chan 2
      decide (c.par.outEn = true ∧ 1 ≤ c.period defaultParams 96 ∧ 1 ≤ c.par.duty.toNat ∧ c.par.duty.toNat ≤ 99)) = true ∧
    (channelStep defaultParams 1 96 (State.reset.chan 2) 1).chan.render.wstate = .idle ∧
    ([.gate, .triangle, .sine, .parabolic, .sawtooth, .expEnv, .logEnv, .random, .sampleHold] : List Shape).all (fun w =>
      let c := (resetPar 2 fun r => { r with wave := w }).chan 2
      decide ((channelStep defaultParams 0 96 c 1).chan.render.wstate ≠ .idle)) = true := by decide

theorem test_witness_SmoothRandomWalksAndFilters :
    let c := (resetAt 2 fun c =>
      { c with par := { c.par with wave := .smoothRandom }, render := { c.render with srFilt := 0xFF00 } }).chan 2
    c.par.outEn = true ∧ 1 ≤ c.period defaultParams 96 ∧ c.par.wave = .smoothRandom ∧ c.render.srFilt.toNat ≤ 0xFF00 ∧
    (channelStep defaultParams 0 96 c 1).chan.render.wstate ≠ .idle ∧
    (channelStep defaultParams 1 96 c 1).chan.render.wstate = .idle := by decide

theorem test_witness_SampleHoldDrawsAtFiringStarts :
    let c := (resetPar 2 fun r => { r with wave := .sampleHold }).chan 2
    c.par.outEn = true ∧ 1 ≤ c.period defaultParams 96 ∧ c.starts defaultParams 0 96 = true ∧ c.starts defaultParams 1 96 = false ∧
    (xorshift32 1).toNat * 100 / 2 ^ 32 < c.par.prob.toNat := by decide

/-- An ANALOG channel with OFFSET 100, running and IDLE, and a DIGITAL one. -/
theorem test_witness_LatchShowsGateAndLevel :
    (let c := (resetPar 2 fun r => { r with offset := 100 }).chan 2
     c.par.outEn = true ∧ 1 ≤ c.period defaultParams 96 ∧ c.par.offset.toNat ≤ 100 ∧ c.kind = .analog) ∧
    (State.reset.chan 0).kind = .digital ∧
    (channelStep defaultParams 0 96 (State.reset.chan 2) 1).chan.render.wstate ≠ .idle ∧
    (channelStep defaultParams 1 96 (State.reset.chan 2) 1).chan.render.wstate = .idle := by decide

theorem test_witness_EuclideanChannelIgnoresTheOthers :
    let s := resetPar 1 fun r => { r with eucEn := true, wave := .sine }
    let s' := { s with rng := 77, paused := true, status := ⟨true, true⟩, chans := s.chans.set 0 (livelyState.chan 2) }
    s'.chan 1 = s.chan 1 ∧ s'.gtick = s.gtick ∧ s'.ppqn = s.ppqn ∧ (s.chan 1).par.eucEn = true ∧
    (s.chan 1).par.wave ≠ .random ∧ (s.chan 1).par.wave ≠ .smoothRandom ∧ (s.chan 1).par.wave ≠ .sampleHold := by decide

/-- The last ratio below 1 (1/2) and the first that is not (1/1), both with the flag set, and the last index. -/
theorem test_witness_ExtPulseCountsOnExtDivChannels :
    ([7, 8, 14] : List (BitVec 4)).map (fun d =>
      let c := (resetPar 0 fun r => { r with div := d, ext := true }).chan 0
      (decide (c.par.div.toNat < 15), decide ((defaultParams.ratio c.par.div.toNat).num < (defaultParams.ratio c.par.div.toNat).den))) =
      [(true, true), (true, false), (true, false)] ∧
    ∀ ch, ((resetPar 0 fun r => { r with div := 14, ext := true }).chan ch).par.div.toNat < 15 := by decide

theorem test_witness_OnlyTickMovesTheOutputs : Instr.extPulse ≠ .tick ∧ ∃ t, exec .extPulse State.reset = .next t := ⟨by decide, _, rfl⟩

theorem test_witness_StatusBitsAreSticky :
    let s := { State.reset with status := ⟨true, true⟩, inputs := [⟨false, true, 0x01000000⟩] }
    (∃ t, step s = .next t) ∧ s.presented.rst = false ∧ s.status.ill = true ∧ s.status.zper = true :=
  ⟨⟨_, rfl⟩, rfl, rfl, rfl⟩

theorem test_witness_DutyCyclePropertyFromReset : (0 : Nat) < 2 ^ 32 ∧ 47 % 96 < 48 ∧ ¬ 48 % 96 < 48 ∧ 2 ^ 32 - 1 < 2 ^ 32 := by decide

theorem test_witness_BjHasItsLengthAndTriggers : (1 ≤ 1 ∧ 1 ≤ 64) ∧ (1 ≤ 64 ∧ 64 ≤ 64) := by decide
theorem test_witness_BjLoopEndsWithinItsBound : 1 ≤ 1 ∧ 1 ≤ 64 ∧ 64 ≤ 64 := by decide

/-- Both ends of the steps, the rotation and the pad; a bit below and a bit above the pattern. -/
theorem test_witness_GenRotatesTheBasePattern :
    (1 ≤ 1 ∧ 1 ≤ 1 ∧ 1 + 63 ≤ 64 ∧ 0 < 1 ∧ 63 < 64) ∧ (1 ≤ 64 ∧ 64 ≤ 64 ∧ 64 + 0 ≤ 64 ∧ 63 < 64 ∧ 0 < 64) := by decide

theorem test_witness_RotationIsACyclicAction : [true, false, false].length = 3 ∧ 1 ≤ 3 ∧ 0 < 3 ∧ 2 < 3 ∧
    (1 ≤ 64 ∧ 64 ≤ 64 ∧ 64 + 0 ≤ 64 ∧ 63 < 64) := by decide

theorem test_witness_PulseAndPhaseStayWithinThePeriod : 1 ≤ 1 ∧ 1 ≤ 1 ∧ 1 ≤ 99 ∧ 99 ≤ 99 ∧ 0 ≤ 100 ∧ 100 ≤ 100 ∧ 1 * 99 < 100 := by
  decide

theorem test_witness_LutiStaysBetweenItsEntries : 0x4000 % 256 = 0 ∧ 0x40FF % 256 ≠ 0 := by decide

end Sys2Proof.Tests
end

section
/-! PROOFS. The decoder accepts exactly the words of the field table (spec/30_encoding.md R96), and what a rejected word does
(R101): one acceptance lemma per form, one for the dispatch on the opcode, and the two obligations from them. -/

namespace Sys2Proof

/-! ### The fields of a word as numbers -/

theorem toNat_fieldOpc (w : Word) : (fieldOpc w).toNat = w.toNat / 2 ^ 24 := by
  simp only [fieldOpc, BitVec.extractLsb'_toNat, Nat.shiftRight_eq_div_pow]
  omega

theorem toNat_fieldCh (w : Word) : (fieldCh w).toNat = w.toNat / 2 ^ 20 % 16 := by
  simp [fieldCh, Nat.shiftRight_eq_div_pow]

theorem toNat_fieldAddr (w : Word) : (fieldAddr w).toNat = w.toNat / 2 ^ 16 % 16 := by
  simp [fieldAddr, Nat.shiftRight_eq_div_pow]

theorem toNat_fieldData (w : Word) : (fieldData w).toNat = w.toNat % 2 ^ 16 := by
  simp [fieldData]

/-! ### Which fields each form accepts (30_encoding.md R96) -/

/-- A CH field that names no channel is above 3 (30_encoding.md R93). -/
theorem chanOf_cases (c : BitVec 4) : (c.toNat ≤ 3 ∧ ∃ ch, chanOf c = some ch) ∨ (¬ c.toNat ≤ 3 ∧ chanOf c = none) := by
  by_cases hc : c.toNat < 4
  · exact .inl ⟨by omega, ⟨c.toNat, hc⟩, dif_pos hc⟩
  · exact .inr ⟨by omega, dif_neg hc⟩

/-- A check that refuses with `e` accepts exactly when its condition holds and what follows it accepts. -/
theorem guard_ok_iff (p : Prop) [Decidable p] (x : Except DecodeError Instr) (e : DecodeError) :
    (∃ i, (if p then x else .error e) = .ok i) ↔ p ∧ ∃ i, x = .ok i := by
  by_cases hp : p <;> simp [hp]

theorem formG0_ok_iff (c a : BitVec 4) (d : Half) (j : Instr) :
    (∃ i, formG0 c a d j = .ok i) ↔ c.toNat = 0 ∧ a.toNat = 0 ∧ d.toNat = 0 := by
  simp [formG0, guard_ok_iff, BitVec.toNat_eq]

theorem formGD_ok_iff (c a : BitVec 4) (d : Half) (f : Half → Instr) :
    (∃ i, formGD c a d f = .ok i) ↔ c.toNat = 0 ∧ a.toNat = 0 := by
  simp [formGD, guard_ok_iff, BitVec.toNat_eq]

theorem formCD_ok_iff (c a : BitVec 4) (d : Half) (f : Chan → Half → Instr) :
    (∃ i, formCD c a d f = .ok i) ↔ c.toNat ≤ 3 ∧ a.toNat = 0 := by
  obtain ⟨hc, ch, hch⟩ | ⟨hc, hch⟩ := chanOf_cases c
  · simp [formCD, hc, hch, guard_ok_iff, BitVec.toNat_eq]
  · simp [formCD, hc, hch]

theorem formC0_ok_iff (c a : BitVec 4) (d : Half) (f : Chan → Instr) :
    (∃ i, formC0 c a d f = .ok i) ↔ c.toNat ≤ 3 ∧ a.toNat = 0 ∧ d.toNat = 0 := by
  obtain ⟨hc, ch, hch⟩ | ⟨hc, hch⟩ := chanOf_cases c
  · simp [formC0, hc, hch, guard_ok_iff, BitVec.toNat_eq]
  · simp [formC0, hc, hch]

theorem formCA_ok_iff (last : Nat) (c a : BitVec 4) (d : Half) (f : Chan → BitVec 4 → Instr) :
    (∃ i, formCA last c a d f = .ok i) ↔ a.toNat ≤ last ∧ c.toNat ≤ 3 ∧ d.toNat = 0 := by
  obtain ⟨hc, ch, hch⟩ | ⟨hc, hch⟩ := chanOf_cases c
  · simp [formCA, hc, hch, guard_ok_iff, BitVec.toNat_eq]
  · simp [formCA, hc, hch]

theorem formGA_ok_iff (last : Nat) (c a : BitVec 4) (d : Half) (f : BitVec 4 → Instr) :
    (∃ i, formGA last c a d f = .ok i) ↔ c.toNat = 0 ∧ a.toNat ≤ last ∧ d.toNat = 0 := by
  simp [formGA, guard_ok_iff, BitVec.toNat_eq, and_assoc, and_comm (a := a.toNat ≤ last)]

/-! ### The dispatch on the opcode -/

/-- The table of 30_encoding.md R96 over the four fields as numbers: what `LegalWord` says of a word's own fields. -/
def LegalFields (o c a d : Nat) : Prop :=
  (o ∈ [0x00, 0x01, 0x02, 0x03, 0x04, 0x06] ∧ c = 0 ∧ a = 0 ∧ d = 0) ∨
  (o ∈ [0x05, 0x07] ∧ c = 0 ∧ a = 0) ∨
  (0x10 ≤ o ∧ o ≤ 0x1F ∧ c ≤ 3 ∧ a = 0) ∨
  (o = 0x20 ∧ c ≤ 3 ∧ a = 0 ∧ d = 0) ∨
  (((o = 0x21 ∧ a ≤ 15) ∨ (o = 0x22 ∧ a ≤ 8) ∨ (o = 0x23 ∧ a ≤ 3)) ∧ c ≤ 3 ∧ d = 0) ∨
  (o = 0x24 ∧ c = 0 ∧ a ≤ 6 ∧ d = 0)

theorem legalWord_iff_legalFields (w : Word) :
    Machine.LegalWord w ↔ LegalFields (fieldOpc w).toNat (fieldCh w).toNat (fieldAddr w).toNat (fieldData w).toNat := by
  rw [toNat_fieldOpc, toNat_fieldCh, toNat_fieldAddr, toNat_fieldData]
  exact Iff.rfl

/-- A legal word's opcode is one of the 29 of 30_encoding.md R95. -/
theorem LegalFields.opcode {o c a d : Nat} (h : LegalFields o c a d) : o ≤ 7 ∨ 0x10 ≤ o ∧ o ≤ 0x24 := by
  simp only [LegalFields, List.mem_cons, List.not_mem_nil, or_false] at h
  omega

/-- Each listed opcode takes its row's form and every other opcode is reserved (30_encoding.md R95, R98). -/
theorem decodeFields_ok_iff (o : BitVec 8) (c a : BitVec 4) (d : Half) :
    (∃ i, decodeFields o c a d = .ok i) ↔ LegalFields o.toNat c.toNat a.toNat d.toNat := by
  unfold decodeFields
  split
  -- the last arm: no listed opcode
  case h_30 =>
    have hreserved : ¬ (o.toNat ≤ 7 ∨ 0x10 ≤ o.toNat ∧ o.toNat ≤ 0x24) := by
      simp only [imp_false, BitVec.toNat_eq, BitVec.toNat_ofNat] at *
      omega
    simpa using fun h : LegalFields o.toNat c.toNat a.toNat d.toNat => hreserved h.opcode
  all_goals simp [LegalFields, formG0_ok_iff, formGD_ok_iff, formCD_ok_iff, formC0_ok_iff, formCA_ok_iff, formGA_ok_iff]

theorem decode_ok_iff_legalWord (w : Word) : (∃ i, decode w = .ok i) ↔ Machine.LegalWord w :=
  (decodeFields_ok_iff _ _ _ _).trans (legalWord_iff_legalFields w).symm

theorem decode_error_of_not_legalWord {w : Word} (h : ¬ Machine.LegalWord w) : ∃ e, decode w = .error e := by
  cases hd : decode w with
  | ok i => exact absurd ((decode_ok_iff_legalWord w).mp ⟨i, hd⟩) h
  | error e => exact ⟨e, rfl⟩

end Sys2Proof

namespace Sys2Proof.Machine

/-- A word that does not decode raises ILLEGAL, whatever would execute a command (30_encoding.md R101). -/
theorem runWordBy_of_decode_error {run : Instr → State → Host.Outcome State Fault Refusal} {w : Word} {e : DecodeError}
    (h : decode w = .error e) (s : State) : runWordBy run w s = .next (raiseIllegal s) := by
  simp [runWordBy, h]

/-- Settles O3, from the acceptance lemma of each form and the dispatch on the opcode. -/
theorem decodesExactlyTheLegalWords : Obligations.DecodesExactlyTheLegalWords :=
  decode_ok_iff_legalWord

/-- Settles O6: such a word does not decode (O3), so it raises ILLEGAL, which writes STATUS.ILL and `rdata` alone. -/
theorem illegalWordSetsIllOnly : Obligations.IllegalWordSetsIllOnly := by
  intro s w hw
  obtain ⟨e, he⟩ := decode_error_of_not_legalWord hw
  exact runWordBy_of_decode_error he s

end Sys2Proof.Machine
end

section
/-! PROOFS. The Euclidean pattern generator (spec/40_euclid.md R120 to R126): a round of Bjorklund pairing only rearranges the
elements of its groups and keeps a trigger in front; rotation adds to the index modulo the steps; packing keeps each element at
its bit. -/

namespace Sys2Proof.Machine

/-! ### Bjorklund pairing (40_euclid.md R122) -/

/-- The groups a round leaves over: those of the longer list past the end of the shorter. -/
theorem bjLoop_leftover (a b : List (List Bool)) :
    (if b.length < a.length then a.drop (min a.length b.length) else b.drop (min a.length b.length)) =
      a.drop b.length ++ b.drop a.length := by
  by_cases h : b.length < a.length
  · simp [h, Nat.min_eq_right h.le, List.drop_eq_nil_of_le h.le]
  · have hle : a.length ≤ b.length := by omega
    simp [h, Nat.min_eq_left hle, List.drop_eq_nil_of_le hle]

theorem bjLoop_of_length_le_one {b : List (List Bool)} (hb : b.length ≤ 1) (fuel : Nat) (a : List (List Bool)) :
    bjLoop fuel a b = a.flatten ++ b.flatten := by
  cases fuel with
  | zero => rfl
  | succ fuel => rw [bjLoop, if_neg (by omega)]

theorem bjLoop_of_one_lt_length {b : List (List Bool)} (hb : 1 < b.length) (fuel : Nat) (a : List (List Bool)) :
    bjLoop (fuel + 1) a b = bjLoop fuel (List.zipWith (· ++ ·) a b) (a.drop b.length ++ b.drop a.length) := by
  rw [bjLoop, if_pos hb, bjLoop_leftover]

/-- One round keeps every element of every group: groups are only paired up. -/
theorem pairing_perm (a b : List (List Bool)) :
    ((List.zipWith (· ++ ·) a b).flatten ++ (a.drop b.length ++ b.drop a.length).flatten).Perm (a.flatten ++ b.flatten) := by
  induction a generalizing b with
  | nil => simp
  | cons x a ih =>
    cases b with
    | nil => simp
    | cons y b =>
      refine List.perm_iff_count.mpr fun v => ?_
      have hrest := (ih b).count_eq v
      simp only [List.zipWith_cons_cons, List.flatten_cons, List.length_cons, List.drop_succ_cons, List.count_append] at hrest ⊢
      omega

/-- The loop rearranges the elements of its groups (40_euclid.md R123). -/
theorem bjLoop_perm (fuel : Nat) (a b : List (List Bool)) : (bjLoop fuel a b).Perm (a.flatten ++ b.flatten) := by
  induction fuel generalizing a b with
  | zero => exact .refl _
  | succ fuel ih =>
    by_cases hb : 1 < b.length
    · rw [bjLoop_of_one_lt_length hb]
      exact (ih _ _).trans (pairing_perm a b)
    · rw [bjLoop_of_length_le_one (by omega)]

/-- The first group begins with a trigger. -/
def LeadsWithTrigger (a : List (List Bool)) : Prop := ∃ g gs, a = (true :: g) :: gs

theorem LeadsWithTrigger.head?_flatten_append {a : List (List Bool)} (h : LeadsWithTrigger a) (bits : List Bool) :
    (a.flatten ++ bits).head? = some true := by
  obtain ⟨g, gs, rfl⟩ := h
  rfl

theorem LeadsWithTrigger.zipWith_append {a b : List (List Bool)} (h : LeadsWithTrigger a) (hb : b ≠ []) :
    LeadsWithTrigger (List.zipWith (· ++ ·) a b) := by
  obtain ⟨g, gs, rfl⟩ := h
  obtain ⟨y, ys, rfl⟩ := List.exists_cons_of_ne_nil hb
  exact ⟨g ++ y, List.zipWith (· ++ ·) gs ys, rfl⟩

theorem leadsWithTrigger_replicate {k : Nat} (hk : 1 ≤ k) : LeadsWithTrigger (List.replicate k [true]) := by
  obtain ⟨j, rfl⟩ := Nat.exists_eq_add_of_le' hk
  exact ⟨[], List.replicate j [true], rfl⟩

theorem head?_bjLoop (fuel : Nat) {a b : List (List Bool)} (h : LeadsWithTrigger a) : (bjLoop fuel a b).head? = some true := by
  induction fuel generalizing a b with
  | zero => exact h.head?_flatten_append _
  | succ fuel ih =>
    by_cases hb : 1 < b.length
    · rw [bjLoop_of_one_lt_length hb]
      exact ih (h.zipWith_append (List.ne_nil_of_length_pos (by omega)))
    · rw [bjLoop_of_length_le_one (by omega)]
      exact h.head?_flatten_append _

theorem bj_perm (k n : Nat) : (bj k n).Perm (List.replicate k true ++ List.replicate (n - k) false) := by
  simpa only [bj, List.flatten_replicate_singleton] using bjLoop_perm n (List.replicate k [true]) (List.replicate (n - k) [false])

theorem length_bj {k n : Nat} (hkn : k ≤ n) : (bj k n).length = n := by
  rw [(bj_perm k n).length_eq, List.length_append, List.length_replicate, List.length_replicate, Nat.add_sub_cancel' hkn]

theorem count_true_bj (k n : Nat) : (bj k n).count true = k := by
  rw [(bj_perm k n).count_eq]
  simp [List.count_replicate]

theorem bj_self (n : Nat) : bj n n = List.replicate n true := by
  rw [bj, bjLoop_of_length_le_one (by simp)]
  simp

/-- Settles O55: the loop rearranges `k` ones and `n - k` zeros, keeps a trigger in front, and does not run for `k = n`. -/
theorem bjHasItsLengthAndTriggers : Obligations.BjHasItsLengthAndTriggers :=
  fun k n hk hkn => ⟨length_bj hkn, count_true_bj k n, head?_bjLoop n (leadsWithTrigger_replicate hk), bj_self n⟩

/-! ### Rotation (40_euclid.md R125) -/

@[simp] theorem length_rotated (n r : Nat) (xs : List Bool) : (rotated n r xs).length = n := by
  simp [rotated]

/-- `rot_r(s)[i] = s[(i + r) mod n]`. -/
theorem getElem?_rotated {n i : Nat} {xs : List Bool} (hlen : xs.length = n) (hi : i < n) (r : Nat) :
    (rotated n r xs)[i]? = xs[(i + r) % n]? := by
  have hmod : (i + r) % n < xs.length := hlen ▸ Nat.mod_lt _ (by omega)
  simp [rotated, hi, hmod]

/-- Sequences of `n` steps are equal when their elements are. -/
theorem ext_steps {n : Nat} {xs ys : List Bool} (hx : xs.length = n) (hy : ys.length = n)
    (h : ∀ i, i < n → xs[i]? = ys[i]?) : xs = ys := by
  refine List.ext_getElem? fun i => ?_
  by_cases hi : i < n
  · exact h i hi
  · rw [List.getElem?_eq_none (by omega), List.getElem?_eq_none (by omega)]

/-- Rotations compose by adding their amounts modulo the steps. -/
theorem rotated_rotated {n : Nat} {xs : List Bool} (hlen : xs.length = n) (a b : Nat) :
    rotated n b (rotated n a xs) = rotated n ((a + b) % n) xs := by
  refine ext_steps (length_rotated ..) (length_rotated ..) fun i hi => ?_
  have hindex : ((i + b) % n + a) % n = (i + (a + b) % n) % n := by
    rw [Nat.mod_add_mod, Nat.add_mod_mod, Nat.add_assoc, Nat.add_comm b a]
  rw [getElem?_rotated (length_rotated ..) hi, getElem?_rotated hlen (Nat.mod_lt _ (by omega)), getElem?_rotated hlen hi, hindex]

/-- Rotation by 0 is the identity. -/
theorem rotated_zero {n : Nat} {xs : List Bool} (hlen : xs.length = n) : rotated n 0 xs = xs :=
  ext_steps (length_rotated ..) hlen fun i hi => by
    rw [getElem?_rotated hlen hi, Nat.add_zero, Nat.mod_eq_of_lt hi]

theorem rotated_sub_rotated {n a : Nat} {xs : List Bool} (hlen : xs.length = n) (ha : a < n) :
    rotated n (n - a) (rotated n a xs) = xs := by
  rw [rotated_rotated hlen, Nat.add_sub_cancel' ha.le, Nat.mod_self, rotated_zero hlen]

/-! ### The packed pattern (40_euclid.md R124) -/

/-- Bit `i` of a packed list is its element `i`, and 0 past its end. -/
theorem testBit_packBits (xs : List Bool) (i : Nat) : (packBits xs).testBit i = xs[i]?.getD false := by
  induction xs generalizing i with
  | nil => simp [packBits]
  | cons b bs ih =>
    have hpack : packBits (b :: bs) = Nat.bit b (packBits bs) := by
      rw [packBits, Nat.bit_val, Nat.add_comm]
      cases b <;> rfl
    rw [hpack]
    cases i with
    | zero => exact Nat.testBit_bit_zero b _
    | succ i => rw [Nat.testBit_bit_succ, ih, List.getElem?_cons_succ]

theorem eucRom_eq_bj {k n : Nat} (hk : 1 ≤ k) (hkn : k ≤ n) (hn : n ≤ 64) : eucRom n k = bj k n :=
  if_pos ⟨hk, hkn, hn⟩

/-- GEN packs the rotated base pattern. -/
theorem getLsbD_gen {k n i : Nat} (hk : 1 ≤ k) (hkn : k ≤ n) (hn : n ≤ 64) (hi : i < 64) (r p : Nat) :
    (gen n k r p).getLsbD i = (rotated n r (bj k n))[i]?.getD false := by
  rw [gen, eucRom_eq_bj hk hkn hn, BitVec.getLsbD_ofNat, testBit_packBits, decide_eq_true hi, Bool.true_and]

/-- Settles O57: below `n` the bit is the rotated element; from `n` on the packed list has ended. -/
theorem genRotatesTheBasePattern : Obligations.GenRotatesTheBasePattern := by
  intro n k r p i hk hkn hnp _ hi
  rw [getLsbD_gen hk hkn (by omega) hi]
  by_cases hin : i < n
  · rw [if_pos hin, getElem?_rotated (length_bj hkn) hin, List.getD_eq_getElem?_getD]
  · rw [if_neg hin, List.getElem?_eq_none (by simp; omega), Option.getD_none]

/-- Settles O58: rotation adds to the index modulo `n`, and GEN packs the rotated BJ, whose element at `i < n` exists. -/
theorem rotationIsACyclicAction : Obligations.RotationIsACyclicAction := by
  refine ⟨fun n a b xs hlen _ => ⟨fun i hi => getElem?_rotated hlen hi a, rotated_rotated hlen a b, rotated_sub_rotated hlen⟩,
    fun n k r p i hk hkn hnp _ hi => ?_⟩
  have hlen : i < (rotated n r (bj k n)).length := by simpa using hi
  rw [getLsbD_gen hk hkn (by omega) (by omega), List.getElem?_eq_getElem hlen, Option.getD_some]

end Sys2Proof.Machine
end

section
/-! PROOFS. The word of a setter (spec/30_encoding.md R95, R96): what decodes re-encodes to the word it came from, so a setter's
word is the only one that decodes to it. -/

namespace Sys2Proof

/-! ### The fields put together again -/

/-- A word is its four fields (30_encoding.md R90). -/
theorem wordOf_fields (w : Word) : wordOf (fieldOpc w) (fieldCh w) (fieldAddr w) (fieldData w) = w := by
  have hlow : fieldAddr w ++ fieldData w = w.extractLsb' 0 20 := BitVec.extractLsb'_append_extractLsb'_eq_extractLsb' rfl
  have hmid : fieldCh w ++ w.extractLsb' 0 20 = w.extractLsb' 0 24 := BitVec.extractLsb'_append_extractLsb'_eq_extractLsb' rfl
  have hall : fieldOpc w ++ w.extractLsb' 0 24 = w.extractLsb' 0 32 := BitVec.extractLsb'_append_extractLsb'_eq_extractLsb' rfl
  rw [wordOf, hlow, hmid, hall, BitVec.extractLsb'_eq_self]

theorem chanField_of_chanOf {c : BitVec 4} {ch : Chan} (h : chanOf c = some ch) : chanField ch = c := by
  revert c ch; decide

/-! ### What each form decodes re-encodes to the form's fields (30_encoding.md R96) -/

/-- A check that refuses with `e` answers `i` exactly when its condition holds and what follows it answers `i`. -/
theorem guard_eq_ok_iff (p : Prop) [Decidable p] (x : Except DecodeError Instr) (e : DecodeError) (i : Instr) :
    (if p then x else .error e) = .ok i ↔ p ∧ x = .ok i := by
  by_cases hp : p <;> simp [hp]

section
variable {o : BitVec 8} {c a : BitVec 4} {d : Half} {i : Instr}

theorem encode_of_formG0 {j : Instr} (hj : encode j = wordOf o 0 0 0) (h : formG0 c a d j = .ok i) : encode i = wordOf o c a d := by
  obtain ⟨⟨rfl, rfl, rfl⟩, hi⟩ := (guard_eq_ok_iff ..).mp h
  cases hi; exact hj

theorem encode_of_formGD {f : Half → Instr} (hf : ∀ d, encode (f d) = wordOf o 0 0 d) (h : formGD c a d f = .ok i) :
    encode i = wordOf o c a d := by
  obtain ⟨⟨rfl, rfl⟩, hi⟩ := (guard_eq_ok_iff ..).mp h
  cases hi; exact hf d

theorem encode_of_formCD {f : Chan → Half → Instr} (hf : ∀ ch d, encode (f ch d) = wordOf o (chanField ch) 0 d)
    (h : formCD c a d f = .ok i) : encode i = wordOf o c a d := by
  unfold formCD at h
  split at h
  case h_1 => cases h
  case h_2 ch hc =>
    obtain ⟨rfl, hi⟩ := (guard_eq_ok_iff ..).mp h
    cases hi; rw [hf, chanField_of_chanOf hc]

theorem encode_of_formC0 {f : Chan → Instr} (hf : ∀ ch, encode (f ch) = wordOf o (chanField ch) 0 0)
    (h : formC0 c a d f = .ok i) : encode i = wordOf o c a d := by
  unfold formC0 at h
  split at h
  case h_1 => cases h
  case h_2 ch hc =>
    obtain ⟨⟨rfl, rfl⟩, hi⟩ := (guard_eq_ok_iff ..).mp h
    cases hi; rw [hf, chanField_of_chanOf hc]

theorem encode_of_formCA {last : Nat} {f : Chan → BitVec 4 → Instr} (hf : ∀ ch a, encode (f ch a) = wordOf o (chanField ch) a 0)
    (h : formCA last c a d f = .ok i) : encode i = wordOf o c a d := by
  unfold formCA at h
  split at h
  case h_1 => cases h
  case h_2 ch hc =>
    obtain ⟨-, hguard⟩ := (guard_eq_ok_iff ..).mp h
    obtain ⟨rfl, hi⟩ := (guard_eq_ok_iff ..).mp hguard
    cases hi; rw [hf, chanField_of_chanOf hc]

theorem encode_of_formGA {last : Nat} {f : BitVec 4 → Instr} (hf : ∀ a, encode (f a) = wordOf o 0 a 0)
    (h : formGA last c a d f = .ok i) : encode i = wordOf o c a d := by
  obtain ⟨⟨rfl, rfl⟩, hguard⟩ := (guard_eq_ok_iff ..).mp h
  obtain ⟨-, hi⟩ := (guard_eq_ok_iff ..).mp hguard
  cases hi; exact hf a

/-- The opcode chooses the form whose command has that opcode (30_encoding.md R95). -/
theorem encode_of_decodeFields (h : decodeFields o c a d = .ok i) : encode i = wordOf o c a d := by
  unfold decodeFields at h
  split at h
  case h_1 | h_2 | h_3 | h_4 | h_5 | h_7 => exact encode_of_formG0 rfl h
  case h_6 | h_8 => exact encode_of_formGD (fun _ => rfl) h
  case h_25 => exact encode_of_formC0 (fun _ => rfl) h
  case h_26 | h_27 | h_28 => exact encode_of_formCA (fun _ _ => rfl) h
  case h_29 => exact encode_of_formGA (fun _ => rfl) h
  case h_30 => cases h
  all_goals exact encode_of_formCD (fun _ _ => rfl) h

end

theorem encode_of_decode {w : Word} {i : Instr} (h : decode w = .ok i) : encode i = w :=
  (encode_of_decodeFields h).trans (wordOf_fields w)

theorem formCD_chanField (ch : Chan) (d : Half) (f : Chan → Half → Instr) : formCD (chanField ch) 0 d f = .ok (f ch d) := by
  simp [formCD]

end Sys2Proof

namespace Sys2Proof.Machine

/-- A word that decodes to a command is that command's only word. -/
theorem commandWord_of_decode {w : Word} {i : Instr} (h : decode w = .ok i) : CommandWord i w :=
  have hw := encode_of_decode h
  ⟨hw, fun _ => ⟨fun hv => (encode_of_decode hv).symm.trans hw, fun hv => hv ▸ h⟩⟩

/-- A command whose opcode takes form CD has the word of that form (30_encoding.md R96). -/
theorem setterWord_of_formCD {o : BitVec 8} {f : Chan → Half → Instr} (hform : ∀ c a d, decodeFields o c a d = formCD c a d f)
    (ch : Chan) (d : Half) : SetterWord (f ch d) o ch d := by
  refine commandWord_of_decode ?_
  rw [decode, fieldOpc_wordOf, fieldCh_wordOf, fieldAddr_wordOf, fieldData_wordOf, hform, formCD_chanField]

end Sys2Proof.Machine
end

section
/-! PROOFS. The Euclidean setters (spec/41_setters.md R159, R161 to R163): a value clamped into a range that its register holds is
stored as it is, and REGEN at the end is `setEuc_eq`. -/

namespace Sys2Proof.Machine

/-! ### What a clamped or lowered register holds -/

/-- A register holds the clamped operand when the range fits its width (00_scope.md R13). -/
theorem toNat_clampReg {w : Nat} {lo hi : Int} (v : Int) (hlo : 0 ≤ lo) (hle : lo ≤ hi) (hw : hi < 2 ^ w) :
    ((clampReg w v lo hi).toNat : Int) = max lo (min hi v) := by
  have hbounds : 0 ≤ clamp v lo hi ∧ clamp v lo hi < 2 ^ w := by
    unfold clamp; omega
  rw [clampReg, BitVec.toNat_ofInt, Int.toNat_of_nonneg (Int.emod_nonneg _ (by positivity))]
  exact Int.emod_eq_of_lt hbounds.1 (by exact_mod_cast hbounds.2)

/-- Lowering a register keeps it within its width. -/
theorem toNat_ofNat_min {w : Nat} (x : BitVec w) (m : Nat) : (BitVec.ofNat w (min x.toNat m)).toNat = min x.toNat m := by
  rw [BitVec.toNat_ofNat, Nat.mod_eq_of_lt (lt_of_le_of_lt (Nat.min_le_left ..) x.isLt)]

/-! ### What each setter answers -/

theorem exec_setEucSteps (ch : Chan) (d : Half) (s : State) :
    exec (.setEucSteps ch d) s = .next (s.afterChan ch ((s.chan ch).afterEuc (stepsPar (sext16 d) (s.chan ch).par))) := by
  rw [exec, execSetEucSteps, setEuc_eq]

theorem exec_setEucTrig (ch : Chan) (d : Half) (s : State) :
    exec (.setEucTrig ch d) s = .next (s.afterChan ch ((s.chan ch).afterEuc
      { (s.chan ch).par with eucTrig := clampReg 7 (sext16 d) 1 ((s.chan ch).par.eucSteps.toNat : Int) })) := by
  rw [exec, execSetEucTrig, setEuc_eq]

theorem exec_setEucRot (ch : Chan) (d : Half) (s : State) :
    exec (.setEucRot ch d) s = .next (s.afterChan ch ((s.chan ch).afterEuc
      { (s.chan ch).par with eucRot := clampReg 6 (sext16 d) 0 (((s.chan ch).par.eucSteps.toNat : Int) - 1) })) := by
  rw [exec, execSetEucRot, setEuc_eq]

theorem exec_setEucPad (ch : Chan) (d : Half) (s : State) :
    exec (.setEucPad ch d) s = .next (s.afterChan ch ((s.chan ch).afterEuc
      { (s.chan ch).par with eucPad := clampReg 7 (sext16 d) 0 (64 - ((s.chan ch).par.eucSteps.toNat : Int)) })) := by
  rw [exec, execSetEucPad, setEuc_eq]

/-- Settles O21: `1..64` fits the steps' register and a lowered field still fits its own. -/
theorem setEucStepsLowersDependentFields : Obligations.SetEucStepsLowersDependentFields := fun ch d s =>
  ⟨_, _, _, _, toNat_clampReg (sext16 d) (by decide) (by decide) (by decide), toNat_ofNat_min .., toNat_ofNat_min ..,
    toNat_ofNat_min .., setterWord_of_formCD (fun _ _ _ => rfl) ch d, exec_setEucSteps ch d s⟩

/-- Settles O22: with the steps in `1..64` none of the three ranges is empty and each fits its register. -/
theorem euclideanSettersClampAgainstSteps : Obligations.EuclideanSettersClampAgainstSteps := by
  intro ch d s hpos hle
  refine ⟨⟨_, ?_, setterWord_of_formCD (fun _ _ _ => rfl) ch d, exec_setEucTrig ch d s⟩,
    ⟨_, ?_, setterWord_of_formCD (fun _ _ _ => rfl) ch d, exec_setEucRot ch d s⟩,
    ⟨_, ?_, setterWord_of_formCD (fun _ _ _ => rfl) ch d, exec_setEucPad ch d s⟩⟩
  all_goals exact toNat_clampReg (sext16 d) (by omega) (by omega) (by omega)

end Sys2Proof.Machine
end

section
/-! PROOFS. The words of the two clocking commands (spec/30_encoding.md R96): form G0 has one legal word for each opcode. -/

namespace Sys2Proof.Machine

theorem decode_wordOf_of_formG0 {o : BitVec 8} {j : Instr} (hform : ∀ c a d, decodeFields o c a d = formG0 c a d j) :
    decode (wordOf o 0 0 0) = .ok j := by
  rw [decode, fieldOpc_wordOf, fieldCh_wordOf, fieldAddr_wordOf, fieldData_wordOf, hform]
  rfl

/-- Of the words whose opcode takes form G0, the one with CH, ADDR and DATA 0 alone is legal. -/
theorem legalWords_of_formG0 {o : BitVec 8} {j : Instr} (hform : ∀ c a d, decodeFields o c a d = formG0 c a d j) :
    LegalWords o (fun w => w = wordOf o 0 0 0) := by
  intro w hopc
  constructor
  · rintro ⟨i, hi⟩
    rw [decode, hopc, hform] at hi
    obtain ⟨⟨hc, ha, hd⟩, -⟩ := (guard_eq_ok_iff ..).mp hi
    rw [← wordOf_fields w, hopc, hc, ha, hd]
  · rintro rfl
    exact ⟨j, decode_wordOf_of_formG0 hform⟩

theorem commandWord_of_formG0 {o : BitVec 8} {j : Instr} (hform : ∀ c a d, decodeFields o c a d = formG0 c a d j) :
    CommandWord j (wordOf o 0 0 0) :=
  commandWord_of_decode (decode_wordOf_of_formG0 hform)

end Sys2Proof.Machine
end

section
/-! PROOFS. What TICK answers (spec/42_tick.md R190): the four channel steps, each on the generator the one before left, and the
state they make. -/

namespace Sys2Proof.Machine

/-- The generator once the first `n` channel steps of a TICK are done (42_tick.md R190). -/
def tickRng (p : Params) (s : State) : Nat → Word
  | 0 => s.rng
  | n + 1 => (channelStep p s.gtick.toNat s.ppqn.toNat (s.chan (Fin.ofNat 4 n)) (tickRng p s n)).rng

/-- The channel step of `ch` in a TICK from `s`. -/
def tickStep (p : Params) (s : State) (ch : Chan) : ChanStep :=
  channelStep p s.gtick.toNat s.ppqn.toNat (s.chan ch) (tickRng p s ch.val)

/-- The state a TICK from `s` leaves. -/
def afterTick (p : Params) (s : State) : State :=
  { s with
    rdata := 0
    gtick := s.gtick + 1
    rng := tickRng p s 4
    chans := ⟨(tickStep p s 0).chan, (tickStep p s 1).chan, (tickStep p s 2).chan, (tickStep p s 3).chan⟩
    status := { s.status with
      zper := s.status.zper || (tickStep p s 0).zper || (tickStep p s 1).zper || (tickStep p s 2).zper || (tickStep p s 3).zper } }

/-- A channel step writes its own channel alone, so the next one still finds its channel as the snapshot had it. -/
theorem tickWith_eq (p : Params) (s : State) : tickWith p s = .next (afterTick p s) := rfl

theorem exec_tick (s : State) : exec .tick s = .next (afterTick defaultParams s) := tickWith_eq defaultParams s

@[simp] theorem afterTick_gtick (p : Params) (s : State) : (afterTick p s).gtick = s.gtick + 1 := rfl

@[simp] theorem afterTick_ppqn (p : Params) (s : State) : (afterTick p s).ppqn = s.ppqn := rfl

@[simp] theorem chan_afterTick (p : Params) (s : State) (ch : Chan) : (afterTick p s).chan ch = (tickStep p s ch).chan := by
  fin_cases ch <;> rfl

/-- ZPER is set after a TICK when it was before or one of the channel steps met a zero period (60_exceptions.md R334). -/
theorem zper_afterTick_iff (p : Params) (s : State) :
    (afterTick p s).status.zper = true ↔ s.status.zper = true ∨ ∃ ch, (tickStep p s ch).zper = true := by
  simp [afterTick, Fin.exists_fin_succ, or_assoc]

/-- Settles O36: the state that `tickWith_eq` names, its four channel steps written out. -/
theorem tickRunsTheChannelsInOrder : Obligations.TickRunsTheChannelsInOrder :=
  ⟨commandWord_of_formG0 (o := 0x01) fun _ _ _ => rfl, legalWords_of_formG0 (j := .tick) fun _ _ _ => rfl,
    fun s => ⟨_, exec_tick s, rfl⟩⟩

end Sys2Proof.Machine
end

section
/-! PROOFS. The two paths of a channel step that run no waveform (spec/42_tick.md R202, R203): a disabled channel and a zero period. -/

namespace Sys2Proof.Machine

theorem channelStep_of_disabled {c : Channel} (h : c.par.outEn = false) (p : Params) (g q : Nat) (rng : Word) :
    channelStep p g q c rng = ⟨disabledStep c, rng, false⟩ := by
  simp [channelStep, h]

theorem channelStep_of_zero_period {p : Params} {q : Nat} {c : Channel} (hen : c.par.outEn = true) (hp : c.period p q = 0) (g : Nat)
    (rng : Word) : channelStep p g q c rng = ⟨c, rng, true⟩ := by
  simp [channelStep, hen, hp]

theorem channelStep_of_enabled {p : Params} {q : Nat} {c : Channel} (hen : c.par.outEn = true) (hp : 1 ≤ c.period p q) (g : Nat)
    (rng : Word) :
    channelStep p g q c rng = ⟨(enabledStep p g q c rng).chan, (enabledStep p g q c rng).rng, false⟩ := by
  simp [channelStep, hen, Nat.ne_of_gt hp]

/-- A legal OFFSET scaled to `0..255` fits the level, so the off-render is exact (43_waveform.md R267). -/
theorem toNat_offLevel {c : Channel} (h : c.par.offset.toNat ≤ 100) :
    (offLevel c).toNat = if c.kind = .analog then c.par.offset.toNat * 255 / 100 else 0 := by
  have hfits : c.par.offset.toNat * 255 / 100 < 2 ^ 8 := by omega
  cases hk : c.kind with
  | digital => simp [offLevel, hk]
  | analog => simp only [offLevel, hk, if_true, BitVec.toNat_ofNat, Nat.mod_eq_of_lt hfits]

/-- With every channel disabled nothing draws. -/
theorem tickRng_of_all_disabled {s : State} (h : ∀ ch, (s.chan ch).par.outEn = false) (p : Params) (n : Nat) :
    tickRng p s n = s.rng := by
  induction n with
  | zero => rfl
  | succ n ih => rw [tickRng, channelStep_of_disabled (h _), ih]

/-- Settles O38: the disabled path is taken before the period is computed. -/
theorem disabledChannelIsForcedOff : Obligations.DisabledChannelIsForcedOff := by
  intro s ch hoff hoffset
  have hchan : (afterTick defaultParams s).chan ch = disabledStep (s.chan ch) := by
    rw [chan_afterTick, tickStep, channelStep_of_disabled hoff]
  refine ⟨_, _, exec_tick s, hchan, fun g q rng => ?_, toNat_offLevel hoffset⟩
  rw [hchan, channelStep_of_disabled hoff]

/-- Settles O39: the guard of a zero period answers the channel and the generator as they are; disabled channels never reach it. -/
theorem zeroPeriodKeepsTheChannel : Obligations.ZeroPeriodKeepsTheChannel := by
  refine fun s ch => ⟨fun hen hzero => ?_, fun hoff => ⟨_, exec_tick s, ?_, tickRng_of_all_disabled hoff _ 4⟩⟩
  · have hguard := channelStep_of_zero_period (p := defaultParams) (c := s.chan ch) hen hzero
    have hstep : tickStep defaultParams s ch = ⟨s.chan ch, tickRng defaultParams s ch.val, true⟩ := hguard _ _
    exact ⟨hguard, _, exec_tick s, by rw [chan_afterTick, hstep], (zper_afterTick_iff ..).mpr (.inr ⟨ch, by rw [hstep]⟩), rfl⟩
  · have hnone (ch : Chan) : (tickStep defaultParams s ch).zper = false := by
      rw [tickStep, channelStep_of_disabled (hoff ch)]
    rw [Bool.eq_iff_iff, zper_afterTick_iff]
    simp [hnone]

end Sys2Proof.Machine
end

section
/-! PROOFS. The enabled channel step (spec/42_tick.md R204 to R218): ELAPSED, the start test, the sub-state and the latch. -/

namespace Sys2Proof.Machine

/-! ### What a start writes -/

/-- Deciding the fire and starting write the cursor and the render state of a channel, nothing else (42_tick.md R208 to R211). -/
theorem startStep_chan (p : Params) (starts : Bool) (c : Channel) (rng : Word) :
    ∃ cursor render, (startStep p starts c rng).chan = { c with cursor := cursor, render := render } := by
  have hafter : ∃ cursor, (afterFire p c rng).chan = { c with cursor := cursor } := by
    unfold afterFire
    split
    · exact ⟨_, rfl⟩
    · exact ⟨c.cursor, rfl⟩
  obtain ⟨cursor, hafter⟩ := hafter
  obtain ⟨-, h⟩ | ⟨-, -, h⟩ | ⟨-, -, h⟩ := startStep_cases p starts c rng
  · exact ⟨c.cursor, c.render, by rw [h]⟩
  · obtain ⟨hold, hfire, -⟩ := fireStart_spec p (afterFire p c rng)
    exact ⟨cursor, _, by rw [h, hfire, hafter]⟩
  · exact ⟨cursor, _, by rw [h, silentStart, hafter]⟩

@[simp] theorem startStep_par (p : Params) (starts : Bool) (c : Channel) (rng : Word) :
    (startStep p starts c rng).chan.par = c.par := by
  obtain ⟨_, _, h⟩ := startStep_chan p starts c rng
  rw [h]

@[simp] theorem startStep_kind (p : Params) (starts : Bool) (c : Channel) (rng : Word) :
    (startStep p starts c rng).chan.kind = c.kind := by
  obtain ⟨_, _, h⟩ := startStep_chan p starts c rng
  rw [h]

@[simp] theorem startStep_pend (p : Params) (starts : Bool) (c : Channel) (rng : Word) :
    (startStep p starts c rng).chan.pend = c.pend := by
  obtain ⟨_, _, h⟩ := startStep_chan p starts c rng
  rw [h]

theorem startStep_elapsed (p : Params) (starts : Bool) (c : Channel) (rng : Word) :
    (startStep p starts c rng).chan.render.elapsed = if starts then 0 else c.render.elapsed := by
  obtain ⟨rfl, h⟩ | ⟨rfl, -, h⟩ | ⟨rfl, -, h⟩ := startStep_cases p starts c rng
  · rw [h]; rfl
  · obtain ⟨hold, hfire, -⟩ := fireStart_spec p (afterFire p c rng)
    rw [h, hfire]; rfl
  · rw [h]; rfl

theorem startStep_wstate (p : Params) (starts : Bool) (c : Channel) (rng : Word) :
    (startStep p starts c rng).chan.render.wstate =
      if starts then (if fires p c rng then .active else .idle) else c.render.wstate := by
  obtain ⟨rfl, h⟩ | ⟨rfl, hf, h⟩ | ⟨rfl, hf, h⟩ := startStep_cases p starts c rng
  · rw [h]; rfl
  · obtain ⟨hold, hfire, -⟩ := fireStart_spec p (afterFire p c rng)
    rw [h, hfire, hf]; rfl
  · rw [h, hf]; rfl

/-! ### What an enabled step leaves -/

section
variable (p : Params) (g q : Nat) (c : Channel) (rng : Word)

@[simp] theorem enabledStep_par : (enabledStep p g q c rng).chan.par = c.par := by
  simp [enabledStep, renderLatch]

@[simp] theorem enabledStep_kind : (enabledStep p g q c rng).chan.kind = c.kind := by
  simp [enabledStep, renderLatch]

/-- PEND is cleared whether or not a cycle starts (42_tick.md R205). -/
@[simp] theorem enabledStep_pend : (enabledStep p g q c rng).chan.pend = false := by
  simp [enabledStep, renderLatch]

theorem enabledStep_elapsed :
    (enabledStep p g q c rng).chan.render.elapsed = if c.starts p g q then 0 else satInc c.render.elapsed := by
  simp [enabledStep, renderLatch, startStep_elapsed]

/-- The sub-state is the one the start column gives, cut off at the step's own ELAPSED (42_tick.md R218). -/
theorem enabledStep_wstate :
    (enabledStep p g q c rng).chan.render.wstate =
      cutoff c.par.wave.cls
        (if c.starts p g q then (if fires p c rng then .active else .idle) else c.render.wstate)
        (enabledStep p g q c rng).chan.render.elapsed.toNat (c.pulse p q) := by
  have hfires : fires p (countTick c) rng = fires p c rng := rfl
  simp [enabledStep, renderLatch, startStep_wstate, hfires]

/-- The gate shows the final sub-state (42_tick.md R216). -/
theorem enabledStep_gateOut :
    (enabledStep p g q c rng).chan.gateOut = !((enabledStep p g q c rng).chan.render.wstate == .idle) := rfl

/-- The level of a DIGITAL channel follows its gate (43_waveform.md R266). -/
theorem enabledStep_levelOut_of_digital (hkind : c.kind = .digital) :
    (enabledStep p g q c rng).chan.levelOut = if (enabledStep p g q c rng).chan.gateOut then 255 else 0 := by
  simp [enabledStep, renderLatch, levelMap, hkind]

end

/-! ### The phase accumulator and the start test -/

theorem toNat_satInc (e : Word) : (satInc e).toNat = min (e.toNat + 1) (2 ^ 32 - 1) := by
  rw [satInc, BitVec.toNat_ofNat, Nat.mod_eq_of_lt (by omega)]

theorem extDiv_iff (p : Params) (c : Channel) :
    c.extDiv p = true ↔ c.par.ext = true ∧ (p.ratio c.par.div.toNat).num < (p.ratio c.par.div.toNat).den := by
  rw [Channel.extDiv, Bool.and_eq_true]
  exact and_congr_right fun _ => decide_eq_true_iff

theorem startTest_iff (g period x : Nat) : startTest g period x = true ↔ g = 0 ∨ ((g : Int) - (x : Int)) % (period : Int) = 0 := by
  simp [startTest]

/-- A cycle starts on PEND in ext-div mode and by the start test otherwise (42_tick.md R205, R206). -/
theorem starts_iff (p : Params) (g q : Nat) (c : Channel) :
    c.starts p g q = true ↔
      if c.par.ext = true ∧ (p.ratio c.par.div.toNat).num < (p.ratio c.par.div.toNat).den then c.pend = true
      else g = 0 ∨ ((g : Int) - (c.displaced p g q : Int)) % (c.period p q : Int) = 0 := by
  by_cases h : c.extDiv p = true
  · rw [if_pos ((extDiv_iff p c).mp h), Channel.starts, if_pos h]
  · rw [if_neg (mt (extDiv_iff p c).mpr h), Channel.starts, if_neg h, startTest_iff]

/-- Settles O40: an enabled step clears PEND and restarts ELAPSED exactly when a cycle starts. -/
theorem elapsedRestartsExactlyAtCycleStarts : Obligations.ElapsedRestartsExactlyAtCycleStarts := by
  intro s ch c ratio g period off swing x start hen hperiod
  have hstep := channelStep_of_enabled (p := defaultParams) (c := c) hen hperiod g (tickRng defaultParams s ch.val)
  have hstarts : c.starts defaultParams g s.ppqn.toNat = true ↔ start := starts_iff ..
  refine ⟨_, exec_tick s, ?_⟩
  rw [chan_afterTick, tickStep, hstep]
  refine ⟨enabledStep_pend .., fun h => ?_, fun h => ?_⟩
  · rw [enabledStep_elapsed, if_pos (hstarts.mpr h)]
  · rw [enabledStep_elapsed, if_neg (mt hstarts.mp h), toNat_satInc]

/-! ### The sub-state machine (42_tick.md R213 to R215, R218) -/

theorem cutoff_idle (cls : ShapeClass) (e d : Nat) : cutoff cls .idle e d = .idle := rfl

theorem cutoff_gateLike (w : WState) (e d : Nat) : cutoff .gateLike w e d = if d ≤ e then .idle else w := by
  cases w with
  | idle => rw [cutoff_idle, ite_self]
  | active | decaying => rfl

theorem cutoff_envelope {w : WState} (hw : w ≠ .idle) (e d : Nat) :
    cutoff .envelope w e d = if d ≤ e then .idle else if 1 ≤ e then .decaying else w := by
  cases w with
  | idle => exact absurd rfl hw
  | active | decaying => rfl

theorem cutoff_continuous (w : WState) (e d : Nat) : cutoff .continuous w e d = w := by
  cases w <;> rfl

/-- A cycle fires on its Euclidean step, or when the generator's next state draws below PROB (42_tick.md R209, R210). -/
theorem fires_iff (c : Channel) (rng : Word) :
    fires defaultParams c rng = true ↔
      if c.par.eucEn then c.rhythm.getLsbD c.cursor.toNat = true
      else (xorshift32 rng).toNat * 100 / 2 ^ 32 < c.par.prob.toNat := by
  unfold fires
  split
  · exact Iff.rfl
  · exact decide_eq_true_iff

/-- Settles O44: the sub-state is the start column's, cut off by the shape's class. -/
theorem subStateMachineFollowsTheTable : Obligations.SubStateMachineFollowsTheTable := by
  intro g q c rng x w w' e d start fire
  have hfire : fires defaultParams c rng = true ↔ fire := fires_iff c rng
  refine ⟨fun hoff => ?_, fun hen hzero => ?_, fun hen hperiod => ?_⟩
  · simp only [w', x, channelStep_of_disabled hoff]
    rfl
  · simp only [w', x, channelStep_of_zero_period hen hzero, w]
  · have hx : x.chan = (enabledStep defaultParams g q c rng).chan := by
      simp only [x, channelStep_of_enabled hen hperiod]
    have hcut : w' = cutoff c.par.wave.cls
        (if c.starts defaultParams g q then (if fires defaultParams c rng then .active else .idle) else w) e d := by
      simp only [w', e, hx]
      exact enabledStep_wstate ..
    refine ⟨fun hs hf => ?_, fun hs hw => ?_, fun v hv => ?_⟩
    · rw [hcut, if_pos hs, if_neg (mt hfire.mp hf), cutoff_idle]
    · rw [hcut, if_neg hs, hw, cutoff_idle]
    · have hlive : w' = cutoff c.par.wave.cls v e d ∧ v ≠ .idle := by
        obtain ⟨hs, hf, rfl⟩ | ⟨hs, hw, rfl⟩ := hv
        · rw [hcut, if_pos hs, if_pos (hfire.mpr hf)]
          exact ⟨rfl, nofun⟩
        · rw [hcut, if_neg hs]
          exact ⟨rfl, hw⟩
      obtain ⟨hcut, hv⟩ := hlive
      refine ⟨fun h => ?_, fun h => ?_, fun h => ?_⟩
      · rw [hcut, h, cutoff_gateLike]
      · rw [hcut, h, cutoff_envelope hv]
      · rw [hcut, h, cutoff_continuous]

end Sys2Proof.Machine
end

section
/-! PROOFS. EXT_PULSE (spec/42_tick.md R221). -/

namespace Sys2Proof.Machine

/-- The ratios below 1 of the default table count modulo `1..128` (42_tick.md R199), so a count fits EXTCNT. -/
theorem pulsesPerStart_bounds {i : Nat} (hi : i < 15) (hsub : (defaultParams.ratio i).num < (defaultParams.ratio i).den) :
    0 < (defaultParams.ratio i).den / (defaultParams.ratio i).num ∧
      (defaultParams.ratio i).den / (defaultParams.ratio i).num ≤ 128 := by
  revert i
  decide

theorem exec_extPulse (s : State) :
    exec .extPulse s = .next { s with rdata := 0, chans := s.chans.map (extPulseChannel defaultParams) } := rfl

theorem extPulseChannel_of_extDiv {p : Params} {c : Channel} (h : c.extDiv p = true) :
    extPulseChannel p c =
      { c with
        pend := c.pend || decide (c.extcnt.toNat % ((c.ratio p).den / (c.ratio p).num) = 0)
        extcnt := BitVec.ofNat 7 ((c.extcnt.toNat + 1) % ((c.ratio p).den / (c.ratio p).num)) } := by
  rw [extPulseChannel, if_pos h]
  simp only [beq_eq_decide]

theorem extPulseChannel_of_not_extDiv {p : Params} {c : Channel} (h : ¬ c.extDiv p = true) : extPulseChannel p c = c := by
  rw [extPulseChannel, if_neg h]

/-- Settles O51: the pulse acts on each channel alone, and in ext-div mode the counter's next value fits its register. -/
theorem extPulseCountsOnExtDivChannels : Obligations.ExtPulseCountsOnExtDivChannels := by
  refine ⟨commandWord_of_formG0 (o := 0x02) fun _ _ _ => rfl, legalWords_of_formG0 (j := .extPulse) fun _ _ _ => rfl,
    fun s hdiv => ?_⟩
  refine ⟨_, exec_extPulse s, rfl, fun ch => ?_⟩
  intro c ratio
  have hchan : State.chan { s with rdata := 0, chans := s.chans.map (extPulseChannel defaultParams) } ch =
      extPulseChannel defaultParams c := Channels.get_map ..
  rw [hchan]
  split
  case isTrue hext =>
    obtain ⟨hpos, hle⟩ := pulsesPerStart_bounds (hdiv ch) hext.2
    refine ⟨_, ?_, extPulseChannel_of_extDiv ((extDiv_iff ..).mpr hext)⟩
    rw [BitVec.toNat_ofNat]
    exact Nat.mod_eq_of_lt (lt_of_lt_of_le (Nat.mod_lt _ hpos) hle)
  case isFalse hext => exact extPulseChannel_of_not_extDiv (mt (extDiv_iff ..).mp hext)

end Sys2Proof.Machine
end

section
/-! PROOFS. The derived tick counts (spec/42_tick.md R194, R195) and the duty-cycle property from reset (R229). -/

namespace Sys2Proof.Machine

/-- A percentage below 100 of a period is below the period. -/
theorem pulseTicks_lt {period duty : Nat} (hperiod : 1 ≤ period) (hduty : duty ≤ 99) : pulseTicks period duty < period := by
  have hle : period * duty ≤ period * 99 := Nat.mul_le_mul_left period hduty
  unfold pulseTicks
  omega

theorem phaseTicks_le {period phase : Nat} (hphase : phase ≤ 100) : phaseTicks period phase ≤ period :=
  Nat.div_le_of_le_mul ((Nat.mul_le_mul_left period hphase).trans_eq (Nat.mul_comm ..))

/-- Settles O59: a percentage of the period, rounded down. -/
theorem pulseAndPhaseStayWithinThePeriod : Obligations.PulseAndPhaseStayWithinThePeriod :=
  fun _ _ _ hperiod _ hduty hphase =>
    ⟨rfl, pulseTicks_lt hperiod hduty, Nat.div_eq_zero_iff_lt (by decide), rfl, phaseTicks_le hphase⟩

/-! ### The duty-cycle property -/

/-- `draw100` lies in `0..99`, so PROB = 100 fires always (42_tick.md R227). -/
theorem draw100_lt (rng : Word) : draw100 rng < 100 := by
  have hrng := rng.isLt
  unfold draw100
  omega

/-- The commands `TICKS n` leave what `n` TICKs one after another leave. -/
theorem execAll_replicate_tick (n : Nat) (s : State) :
    execAll (List.replicate n .tick) s = .next ((afterTick defaultParams)^[n] s) := by
  induction n generalizing s with
  | zero => rfl
  | succ n ih => rw [List.replicate_succ, execAll, exec_tick, Function.iterate_succ_apply, ← ih]

/-- Channel 0 before the TICK with global tick `n` of a run from reset: its reset parameters and, unless a cycle is about to start,
`n mod 96 - 1` ticks past the last start. -/
structure InDutyCycle (n : Nat) (c : Channel) : Prop where
  par     : c.par = ParamRegs.reset defaultParams
  kind    : c.kind = .digital
  elapsed : n % 96 ≠ 0 → c.render.elapsed.toNat + 1 = n % 96
  wstate  : n % 96 ≠ 0 → c.render.wstate = if n % 96 ≤ 48 then .active else .idle

/-- The state before the TICK with global tick `n` of a run from reset. -/
structure BeforeTick (n : Nat) (s : State) : Prop where
  gtick : s.gtick = BitVec.ofNat 32 n
  ppqn  : s.ppqn = 96
  chan  : InDutyCycle n (s.chan 0)

/-- What the TICK with global tick `n` leaves of channel 0: high for the first 48 ticks of a cycle of 96, then low. -/
structure DutyOutput (n : Nat) (c : Channel) : Prop where
  elapsed  : c.render.elapsed.toNat = n % 96
  wstate   : c.render.wstate = if n % 96 < 48 then .active else .idle
  gateOut  : c.gateOut = decide (n % 96 < 48)
  levelOut : c.levelOut = if n % 96 < 48 then 255 else 0

theorem beforeTick_reset : BeforeTick 0 State.reset where
  gtick := rfl
  ppqn  := rfl
  chan  := ⟨rfl, rfl, nofun, nofun⟩

section
variable {c : Channel} (hpar : c.par = ParamRegs.reset defaultParams)
include hpar

theorem period_of_reset_par : c.period defaultParams 96 = 96 := by
  rw [Channel.period, Channel.ratio, hpar]; rfl

theorem pulse_of_reset_par : c.pulse defaultParams 96 = 48 := by
  rw [Channel.pulse, period_of_reset_par hpar, hpar]; rfl

/-- PHASE 0 and SWING_AMT 0 displace nothing. -/
theorem displaced_of_reset_par (g : Nat) : c.displaced defaultParams g 96 = 0 := by
  rw [Channel.displaced, period_of_reset_par hpar, hpar]
  exact ite_self _

/-- The cycles of the reset parameters start at the multiples of 96. -/
theorem starts_of_reset_par (g : Nat) : c.starts defaultParams g 96 = true ↔ g % 96 = 0 := by
  rw [starts_iff, if_neg (by rw [hpar]; decide), displaced_of_reset_par hpar, period_of_reset_par hpar]
  omega

theorem fires_of_reset_par (rng : Word) : fires defaultParams c rng = true := by
  rw [fires_iff, hpar]
  exact draw100_lt (xorshift32 rng)

end

theorem InDutyCycle.dutyOutput {n : Nat} {c : Channel} (h : InDutyCycle n c) (rng : Word) :
    DutyOutput n (enabledStep defaultParams n 96 c rng).chan := by
  obtain ⟨hpar, hkind, helapsed, hwstate⟩ := h
  have hcls : c.par.wave.cls = .gateLike := by rw [hpar]; rfl
  have he : (enabledStep defaultParams n 96 c rng).chan.render.elapsed.toNat = n % 96 := by
    rw [enabledStep_elapsed]
    by_cases hs : n % 96 = 0
    · rw [if_pos ((starts_of_reset_par hpar n).mpr hs), hs]; rfl
    · rw [if_neg (mt (starts_of_reset_par hpar n).mp hs), toNat_satInc, helapsed hs]
      omega
  have hw : (enabledStep defaultParams n 96 c rng).chan.render.wstate = if n % 96 < 48 then .active else .idle := by
    rw [enabledStep_wstate, he, hcls, cutoff_gateLike, pulse_of_reset_par hpar]
    by_cases hs : n % 96 = 0
    · rw [if_pos ((starts_of_reset_par hpar n).mpr hs), fires_of_reset_par hpar, hs]; rfl
    · rw [if_neg (mt (starts_of_reset_par hpar n).mp hs), hwstate hs]
      rcases Nat.lt_or_ge (n % 96) 48 with h | h
      · rw [if_neg (by omega), if_pos (by omega), if_pos h]
      · rw [if_pos h, if_neg (by omega)]
  have hgate : (enabledStep defaultParams n 96 c rng).chan.gateOut = decide (n % 96 < 48) := by
    rw [enabledStep_gateOut, hw]
    by_cases h : n % 96 < 48 <;> simp [h]
  refine ⟨he, hw, hgate, ?_⟩
  rw [enabledStep_levelOut_of_digital _ _ _ _ _ hkind, hgate]
  simp

/-- The step of channel 0 in a TICK of the run is an enabled step with the period 96. -/
theorem BeforeTick.chan_afterTick {n : Nat} {s : State} (h : BeforeTick n s) (hn : n < 2 ^ 32) :
    (afterTick defaultParams s).chan 0 = (enabledStep defaultParams n 96 (s.chan 0) s.rng).chan := by
  have hg : s.gtick.toNat = n := by
    rw [h.gtick, BitVec.toNat_ofNat, Nat.mod_eq_of_lt hn]
  have hq : s.ppqn.toNat = 96 := by rw [h.ppqn]; rfl
  have hen : (s.chan 0).par.outEn = true := by rw [h.chan.par]; rfl
  have hstep := channelStep_of_enabled (g := n) (rng := s.rng) hen (by rw [period_of_reset_par h.chan.par]; decide)
  rw [Machine.chan_afterTick, tickStep, hg, hq]
  exact congrArg ChanStep.chan hstep

theorem BeforeTick.dutyOutput {n : Nat} {s : State} (h : BeforeTick n s) (hn : n < 2 ^ 32) :
    DutyOutput n ((afterTick defaultParams s).chan 0) := by
  rw [h.chan_afterTick hn]
  exact h.chan.dutyOutput s.rng

theorem BeforeTick.afterTick {n : Nat} {s : State} (h : BeforeTick n s) (hn : n < 2 ^ 32) :
    BeforeTick (n + 1) (afterTick defaultParams s) := by
  have hout := h.dutyOutput hn
  refine ⟨?_, h.ppqn, ?_, ?_, fun hs => ?_, fun hs => ?_⟩
  · rw [afterTick_gtick, h.gtick, BitVec.ofNat_add]; rfl
  · rw [h.chan_afterTick hn, enabledStep_par, h.chan.par]
  · rw [h.chan_afterTick hn, enabledStep_kind, h.chan.kind]
  · rw [hout.elapsed]
    omega
  · rw [hout.wstate]
    exact if_congr (by omega) rfl rfl

theorem beforeTick_iterate (n : Nat) : n < 2 ^ 32 → BeforeTick n ((Machine.afterTick defaultParams)^[n] State.reset) := by
  induction n with
  | zero => exact fun _ => beforeTick_reset
  | succ n ih =>
    intro hn
    rw [Function.iterate_succ_apply']
    exact (ih (by omega)).afterTick (by omega)

/-- Settles O54, by induction on the TICKs of the run: `BeforeTick` holds at reset and every TICK keeps it. -/
theorem dutyCyclePropertyFromReset : Obligations.DutyCyclePropertyFromReset := by
  refine ⟨period_of_reset_par rfl, pulse_of_reset_par rfl, fun n hn => ⟨_, execAll_replicate_tick (n + 1) State.reset, ?_⟩⟩
  rw [Function.iterate_succ_apply']
  have hout := (beforeTick_iterate n hn).dutyOutput hn
  exact ⟨hout.elapsed, hout.gateOut, hout.levelOut⟩

end Sys2Proof.Machine
end

section
/-! PROOFS. Interpolation in the shape tables (spec/43_waveform.md R243, R244, R270 to R273): `LUTI` lies between the two entries it
reads, so every phase below 65536 gives a sample of 8 bits. -/

namespace Sys2Proof.Machine

/-! ### A weighted mean of two numbers, the weights out of 256 -/

theorem le_weighted_mean {a b m f : Nat} (hf : f ≤ 256) (ha : m ≤ a) (hb : m ≤ b) : m ≤ (a * (256 - f) + b * f) / 256 := by
  rw [Nat.le_div_iff_mul_le (by decide)]
  calc
    m * 256 = m * (256 - f) + m * f := by rw [← Nat.mul_add, Nat.sub_add_cancel hf]
    _ ≤ a * (256 - f) + b * f := Nat.add_le_add (Nat.mul_le_mul_right _ ha) (Nat.mul_le_mul_right _ hb)

theorem weighted_mean_le {a b m f : Nat} (hf : f ≤ 256) (ha : a ≤ m) (hb : b ≤ m) : (a * (256 - f) + b * f) / 256 ≤ m := by
  refine Nat.div_le_of_le_mul ?_
  calc
    a * (256 - f) + b * f ≤ m * (256 - f) + m * f := Nat.add_le_add (Nat.mul_le_mul_right _ ha) (Nat.mul_le_mul_right _ hb)
    _ = 256 * m := by rw [← Nat.mul_add, Nat.sub_add_cancel hf, Nat.mul_comm]

/-! ### LUTI -/

/-- The fraction of a phase weighs less than a whole entry. -/
theorem fraction_le (ph : Nat) : ph % 256 ≤ 256 := (Nat.mod_lt ph (by decide)).le

/-- The formula of R244, in shifts and a mask. -/
theorem luti_eq_shift (t : List Nat) (ph : Nat) :
    luti t ph = (lutRead t (ph >>> 8) * (256 - (ph &&& 0xFF)) + lutRead t ((ph >>> 8) + 1) * (ph &&& 0xFF)) >>> 8 := by
  have hmask : ph &&& 0xFF = ph % 256 := Nat.and_two_pow_sub_one_eq_mod ph 8
  simp only [luti, hmask, Nat.shiftRight_eq_div_pow, Nat.reducePow]

theorem luti_le {t : List Nat} {ph m : Nat} (h : lutRead t (ph / 256) ≤ m) (h' : lutRead t (ph / 256 + 1) ≤ m) : luti t ph ≤ m :=
  weighted_mean_le (fraction_le ph) h h'

theorem le_luti {t : List Nat} {ph m : Nat} (h : m ≤ lutRead t (ph / 256)) (h' : m ≤ lutRead t (ph / 256 + 1)) : m ≤ luti t ph :=
  le_weighted_mean (fraction_le ph) h h'

theorem luti_of_no_fraction {t : List Nat} {ph : Nat} (h : ph % 256 = 0) : luti t ph = lutRead t (ph / 256) := by
  rw [luti, h, Nat.mul_zero, Nat.add_zero, Nat.sub_zero, Nat.mul_div_cancel _ (by decide)]

/-- Settles O60: LUTI is a weighted mean of the two entries, all the weight on the first when the fraction is 0. -/
theorem lutiStaysBetweenItsEntries : Obligations.LutiStaysBetweenItsEntries := fun t ph =>
  ⟨luti_eq_shift t ph, le_luti (min_le_left ..) (min_le_right ..), luti_le (le_max_left ..) (le_max_right ..), luti_of_no_fraction⟩

/-! ### The shape tables hold samples -/

/-- The form of R270 to R273: 257 entries, each a sample of 8 bits. -/
structure SampleTable (t : List Nat) : Prop where
  length : t.length = 257
  sample : t.all (· ≤ 255) = true

theorem sampleTable_halfLut : SampleTable halfLut := ⟨by decide +kernel, by decide +kernel⟩
theorem sampleTable_expLut : SampleTable expLut := ⟨by decide +kernel, by decide +kernel⟩
theorem sampleTable_logLut : SampleTable logLut := ⟨by decide +kernel, by decide +kernel⟩

theorem SampleTable.lutRead_le {t : List Nat} (ht : SampleTable t) {i : Nat} (hi : i ≤ 256) : lutRead t i ≤ 255 := by
  have hlt : i < t.length := ht.length ▸ Nat.lt_succ_of_le hi
  rw [lutRead, List.getD_eq_getElem t _ hlt]
  exact of_decide_eq_true (List.all_eq_true.mp ht.sample _ (List.getElem_mem hlt))

/-- A 16-bit phase reads inside the table (43_waveform.md R243). -/
theorem SampleTable.luti_le {t : List Nat} (ht : SampleTable t) {ph : Nat} (hph : ph < 65536) : luti t ph ≤ 255 :=
  Machine.luti_le (ht.lutRead_le (by omega)) (ht.lutRead_le (by omega))

end Sys2Proof.Machine
end

section
/-! PROOFS. What an enabled channel step renders (spec/43_waveform.md R242, R252 to R262): the channel as the renderer finds it, the
sample and direction of each shape. -/

namespace Sys2Proof.Machine

/-! ### The channel as the renderer finds it -/

section
variable (p : Params) (g q : Nat) (c : Channel) (rng : Word)

/-- The channel and the generator of an enabled step after the start and the cutoff, where the renderer runs (42_tick.md R216). -/
def beforeRender : ChanRng :=
  ⟨cutoffStep (startStep p (c.starts p g q) (countTick c) rng).chan (c.pulse p q),
    (startStep p (c.starts p g q) (countTick c) rng).rng⟩

/-- What the renderer hands back in an enabled step. -/
def stepRendered : Rendered :=
  render p (beforeRender p g q c rng).chan (beforeRender p g q c rng).chan.render.elapsed.toNat (c.period p q) (c.pulse p q)
    (beforeRender p g q c rng).rng

/-! The step stores what the renderer hands back (43_waveform.md R242); the rest of the render state is as the renderer found it. -/

theorem enabledStep_sample : (enabledStep p g q c rng).chan.render.sample = (stepRendered p g q c rng).smp := rfl

theorem enabledStep_dir : (enabledStep p g q c rng).chan.render.dir = (stepRendered p g q c rng).dir := rfl

theorem enabledStep_srWalk : (enabledStep p g q c rng).chan.render.srWalk = (stepRendered p g q c rng).srWalk := rfl

theorem enabledStep_srFilt : (enabledStep p g q c rng).chan.render.srFilt = (stepRendered p g q c rng).srFilt := rfl

theorem enabledStep_rng : (enabledStep p g q c rng).rng = (stepRendered p g q c rng).rng := rfl

theorem beforeRender_wstate : (beforeRender p g q c rng).chan.render.wstate = (enabledStep p g q c rng).chan.render.wstate := rfl

theorem beforeRender_elapsed : (beforeRender p g q c rng).chan.render.elapsed = (enabledStep p g q c rng).chan.render.elapsed := rfl

theorem beforeRender_shHold : (beforeRender p g q c rng).chan.render.shHold = (enabledStep p g q c rng).chan.render.shHold := rfl

@[simp] theorem beforeRender_par : (beforeRender p g q c rng).chan.par = c.par := by
  simp [beforeRender]

end

section
variable {p : Params} {g q : Nat} {c : Channel} {rng : Word}

theorem stepRendered_of_idle (h : (enabledStep p g q c rng).chan.render.wstate = .idle) :
    stepRendered p g q c rng = plainRender (beforeRender p g q c rng).chan (beforeRender p g q c rng).rng 0 false :=
  render_idle _ _ _ _ _ _ ((beforeRender_wstate ..).trans h)

theorem stepRendered_of_live (h : (enabledStep p g q c rng).chan.render.wstate ≠ .idle) :
    stepRendered p g q c rng =
      renderShape p (beforeRender p g q c rng).chan (enabledStep p g q c rng).chan.render.elapsed.toNat (c.period p q) (c.pulse p q)
        (beforeRender p g q c rng).rng := by
  rw [← beforeRender_wstate] at h
  rw [stepRendered, render_live _ _ _ _ _ _ h, beforeRender_elapsed]

/-- A shape that is cut off at `D` is live only before `D` (42_tick.md R213, R214). -/
theorem lt_of_cutoff_ne_idle {cls : ShapeClass} {w : WState} {e d : Nat} (hcls : cls ≠ .continuous)
    (h : cutoff cls w e d ≠ .idle) : e < d := by
  by_contra hle
  refine h ?_
  cases w with
  | idle => rfl
  | active | decaying =>
    cases cls with
    | gateLike | envelope => exact if_pos (Nat.le_of_not_lt hle)
    | continuous => exact absurd rfl hcls

theorem enabledStep_elapsed_lt_pulse (hcls : c.par.wave.cls ≠ .continuous)
    (h : (enabledStep p g q c rng).chan.render.wstate ≠ .idle) :
    (enabledStep p g q c rng).chan.render.elapsed.toNat < c.pulse p q := by
  rw [enabledStep_wstate] at h
  exact lt_of_cutoff_ne_idle hcls h

end

/-! ### The value of each sample -/

theorem toNat_plainRender_smp {smp : Nat} (h : smp ≤ 255) (c : Channel) (rng : Word) (dir : Bool) :
    (plainRender c rng smp dir).smp.toNat = smp :=
  (BitVec.toNat_ofNat ..).trans (Nat.mod_eq_of_lt (Nat.lt_succ_of_le h))

/-- `drawbyte()` is the top byte of the generator (42_tick.md R227). -/
theorem toNat_drawByte (rng : Word) : (drawByte rng).toNat = rng.toNat / 2 ^ 24 := by
  have hrng := rng.isLt
  rw [drawByte, BitVec.extractLsb'_toNat, Nat.shiftRight_eq_div_pow]
  omega

/-- A part of a window out of a fixed scale is at most the scale. -/
theorem scaled_le {k a b : Nat} (h : a ≤ b) : k * a / b ≤ k :=
  Nat.div_le_of_le_mul ((Nat.mul_le_mul_left k h).trans_eq (Nat.mul_comm ..))

theorem triangleSample_le {e period d : Nat} : triangleSample e period d ≤ 255 := by
  unfold triangleSample
  split
  case isTrue he => exact scaled_le he.le
  case isFalse he => exact scaled_le (Nat.sub_le_sub_left (Nat.le_of_not_lt he) period)

/-- Inside the window the phase has 16 bits (43_waveform.md R243). -/
theorem windowPhase_lt {e d : Nat} (he : e < d) : windowPhase e d < 65536 :=
  Nat.div_lt_of_lt_mul (by rw [Nat.mul_comm d]; exact Nat.mul_lt_mul_of_pos_left he (by decide))

theorem warpFloor_le (d a m : Nat) : warpFloor d a m ≤ m := by
  induction m with
  | zero => exact le_rfl
  | succ m ih =>
    rw [warpFloor]
    split
    · exact le_rfl
    · exact ih.trans (Nat.le_succ m)

/-- The range of the reference SINE_WARP (43_waveform.md R250). -/
theorem sineWarpDefault_le (d s : Nat) : sineWarpDefault d s ≤ 255 := by
  unfold sineWarpDefault
  split
  · exact Nat.add_le_add_left (warpFloor_le d _ 127) 128
  · exact (Nat.sub_le ..).trans (by decide)

section
variable {p : Params} {c : Channel} {e period d : Nat} {rng : Word}

theorem renderShape_gate (hw : c.par.wave = .gate) :
    (renderShape p c e period d rng).smp = 255 ∧ (renderShape p c e period d rng).dir = true := by
  rw [renderShape, hw]
  exact ⟨rfl, rfl⟩

theorem renderShape_triangle (hw : c.par.wave = .triangle) :
    (renderShape p c e period d rng).smp.toNat = triangleSample e period d ∧
      (renderShape p c e period d rng).dir = decide (e < d) := by
  rw [renderShape, hw]
  exact ⟨toNat_plainRender_smp triangleSample_le .., rfl⟩

theorem renderShape_sine (hw : c.par.wave = .sine) :
    (renderShape defaultParams c e period d rng).smp.toNat =
        sineWarpDefault c.par.duty.toNat (luti sineLut (sinePhase e period)) ∧
      (renderShape defaultParams c e period d rng).dir = decide (sinePhase e period < 32768) := by
  rw [renderShape, hw]
  exact ⟨toNat_plainRender_smp (sineWarpDefault_le ..) .., rfl⟩

theorem renderShape_parabolic (hw : c.par.wave = .parabolic) (he : e < d) :
    (renderShape p c e period d rng).smp.toNat = luti halfLut (windowPhase e d) ∧
      (renderShape p c e period d rng).dir = decide (windowPhase e d < 32768) := by
  rw [renderShape, hw]
  exact ⟨toNat_plainRender_smp (sampleTable_halfLut.luti_le (windowPhase_lt he)) .., rfl⟩

theorem renderShape_sawtooth (hw : c.par.wave = .sawtooth) (he : e < d) :
    (renderShape p c e period d rng).smp.toNat = 255 * e / d ∧ (renderShape p c e period d rng).dir = true := by
  rw [renderShape, hw]
  exact ⟨toNat_plainRender_smp (scaled_le he.le) .., rfl⟩

theorem renderShape_expEnv (hw : c.par.wave = .expEnv) (he : e < d) :
    (renderShape p c e period d rng).smp.toNat = luti expLut (windowPhase e d) ∧
      (renderShape p c e period d rng).dir = false := by
  rw [renderShape, hw]
  exact ⟨toNat_plainRender_smp (sampleTable_expLut.luti_le (windowPhase_lt he)) .., rfl⟩

theorem renderShape_logEnv (hw : c.par.wave = .logEnv) (he : e < d) :
    (renderShape p c e period d rng).smp.toNat = luti logLut (windowPhase e d) ∧
      (renderShape p c e period d rng).dir = false := by
  rw [renderShape, hw]
  exact ⟨toNat_plainRender_smp (sampleTable_logLut.luti_le (windowPhase_lt he)) .., rfl⟩

theorem renderShape_random (hw : c.par.wave = .random) :
    (renderShape p c e period d rng).smp.toNat = (renderShape p c e period d rng).rng.toNat / 2 ^ 24 ∧
      (renderShape p c e period d rng).dir = true := by
  rw [renderShape, hw]
  exact ⟨toNat_drawByte _, rfl⟩

theorem renderShape_sampleHold (hw : c.par.wave = .sampleHold) :
    (renderShape p c e period d rng).smp = c.render.shHold ∧ (renderShape p c e period d rng).dir = true := by
  rw [renderShape, hw]
  exact ⟨(BitVec.ofNat_toNat ..).trans (BitVec.setWidth_eq _), rfl⟩

end

/-- Settles O46: the step stores what the renderer hands back, and each shape's value fits the sample. -/
theorem channelStepRendersItsShape : Obligations.ChannelStepRendersItsShape := by
  intro g q c rng hen hperiod _ _
  rw [channelStep_of_enabled hen hperiod]
  intro x r e period d
  refine ⟨fun hidle => ?_, fun hlive => ?_⟩
  · have hrendered := stepRendered_of_idle hidle
    exact ⟨(enabledStep_sample ..).trans (congrArg Rendered.smp hrendered),
      (enabledStep_dir ..).trans (congrArg Rendered.dir hrendered)⟩
  · have hrendered : stepRendered defaultParams g q c rng = renderShape defaultParams _ e period d _ := stepRendered_of_live hlive
    have hsample : r.sample = _ := (enabledStep_sample ..).trans (congrArg Rendered.smp hrendered)
    have hdir : r.dir = _ := (enabledStep_dir ..).trans (congrArg Rendered.dir hrendered)
    have hrng : x.rng = _ := (enabledStep_rng ..).trans (congrArg Rendered.rng hrendered)
    have hhold : r.shHold = _ := (beforeRender_shHold ..).symm
    have hpar := beforeRender_par defaultParams g q c rng
    have hwindow {w : Shape} (hw : (beforeRender defaultParams g q c rng).chan.par.wave = w) (hcls : w.cls ≠ .continuous) :
        e < d := by
      rw [hpar] at hw
      exact enabledStep_elapsed_lt_pulse (hw ▸ hcls) hlive
    rw [hsample, hdir, hrng, hhold, ← hpar]
    refine ⟨renderShape_gate, renderShape_triangle, renderShape_sine, fun hw => ?_, fun hw => ?_, fun hw => ?_, fun hw => ?_,
      renderShape_random, renderShape_sampleHold⟩
    · exact ⟨hwindow hw nofun, renderShape_parabolic hw (hwindow hw nofun)⟩
    · exact ⟨hwindow hw nofun, renderShape_sawtooth hw (hwindow hw nofun)⟩
    · exact ⟨hwindow hw nofun, renderShape_expEnv hw (hwindow hw nofun)⟩
    · exact ⟨hwindow hw nofun, renderShape_logEnv hw (hwindow hw nofun)⟩

end Sys2Proof.Machine
end

section
/-! PROOFS. SMOOTH_RANDOM (spec/43_waveform.md R261): the clamped walk, the filter that follows it, and what an enabled step stores. -/

namespace Sys2Proof.Machine

/-! ### One step of the walk and of the filter -/

theorem toNat_smoothWalk (walk r : Byte) :
    ((smoothWalk defaultParams walk r).toNat : Int) =
      max 0 (min 255 ((walk.toNat : Int) + ((r.toNat % 33 : Nat) : Int) - 16)) := by
  rw [add_sub_assoc]
  exact toNat_clampReg (w := 8) _ (by decide) (by decide) (by decide)

/-- The floor of a quarter of the distance never passes the target, so the filter keeps its range (43_waveform.md R261). -/
theorem filter_step_bounds {filt walk : Nat} (hfilt : filt ≤ 0xFF00) (hwalk : walk ≤ 255) :
    0 ≤ (filt : Int) + ((walk : Int) * 256 - filt) / 4 ∧ (filt : Int) + ((walk : Int) * 256 - filt) / 4 ≤ 0xFF00 := by
  omega

theorem toNat_smoothFilt {filt : Half} (hfilt : filt.toNat ≤ 0xFF00) (walk : Byte) :
    ((smoothFilt defaultParams filt walk).toNat : Int) =
      (filt.toNat : Int) + ((walk.toNat : Int) * 256 - (filt.toNat : Int)) / 4 := by
  obtain ⟨hlo, hhi⟩ := filter_step_bounds hfilt (Nat.le_of_lt_succ walk.isLt)
  have hclamped : smoothFilt defaultParams filt walk =
      clampReg 16 ((filt.toNat : Int) + ((walk.toNat : Int) * 256 - (filt.toNat : Int)) / 4) 0 0xFF00 := by
    rw [clampReg, clamp, min_eq_right hhi, max_eq_right hlo]
    simp only [smoothFilt, Nat.cast_mul]
    rfl
  rw [hclamped, toNat_clampReg _ (by decide) (by decide) (by decide), min_eq_right hhi, max_eq_right hlo]

/-! ### What an enabled step leaves of the walk and the filter -/

/-- A start keeps the walk and the filter of SMOOTH_RANDOM (90_conflicts.md C5). -/
theorem startStep_smooth (p : Params) (starts : Bool) (c : Channel) (rng : Word) :
    (startStep p starts c rng).chan.render.srWalk = c.render.srWalk ∧
      (startStep p starts c rng).chan.render.srFilt = c.render.srFilt := by
  obtain ⟨-, h⟩ | ⟨-, -, h⟩ | ⟨-, -, h⟩ := startStep_cases p starts c rng
  · simp [h]
  · obtain ⟨hold, hfire, -⟩ := fireStart_spec p (afterFire p c rng)
    simp [h, hfire]
  · simp [h, silentStart]

theorem beforeRender_srWalk (p : Params) (g q : Nat) (c : Channel) (rng : Word) :
    (beforeRender p g q c rng).chan.render.srWalk = c.render.srWalk := (startStep_smooth p _ (countTick c) rng).1

theorem beforeRender_srFilt (p : Params) (g q : Nat) (c : Channel) (rng : Word) :
    (beforeRender p g q c rng).chan.render.srFilt = c.render.srFilt := (startStep_smooth p _ (countTick c) rng).2

/-- The walk moves by the drawn byte, the filter follows the moved walk, and the sample is the filter's high byte. -/
theorem renderShape_smoothRandom {p : Params} {c : Channel} {e period d : Nat} {rng : Word} (hw : c.par.wave = .smoothRandom) :
    let out := renderShape p c e period d rng
    out.srWalk = smoothWalk p c.render.srWalk (drawByte out.rng) ∧ out.srFilt = smoothFilt p c.render.srFilt out.srWalk ∧
      out.smp = out.srFilt.extractLsb' 8 8 ∧ out.dir = true := by
  rw [renderShape, hw]
  exact ⟨rfl, rfl, rfl, rfl⟩

section
variable {p : Params} {g q : Nat} {c : Channel} {rng : Word}

theorem enabledStep_smooth_of_idle (h : (enabledStep p g q c rng).chan.render.wstate = .idle) :
    (enabledStep p g q c rng).chan.render.srWalk = c.render.srWalk ∧
      (enabledStep p g q c rng).chan.render.srFilt = c.render.srFilt := by
  rw [enabledStep_srWalk, enabledStep_srFilt, stepRendered_of_idle h]
  exact ⟨beforeRender_srWalk .., beforeRender_srFilt ..⟩

theorem enabledStep_smooth_of_live (hw : c.par.wave = .smoothRandom)
    (h : (enabledStep p g q c rng).chan.render.wstate ≠ .idle) :
    let x := enabledStep p g q c rng
    x.chan.render.srWalk = smoothWalk p c.render.srWalk (drawByte x.rng) ∧
      x.chan.render.srFilt = smoothFilt p c.render.srFilt x.chan.render.srWalk ∧
      x.chan.render.sample = x.chan.render.srFilt.extractLsb' 8 8 ∧ x.chan.render.dir = true := by
  have hpar := beforeRender_par p g q c rng
  dsimp only
  rw [enabledStep_srWalk, enabledStep_srFilt, enabledStep_sample, enabledStep_dir, enabledStep_rng, stepRendered_of_live h,
    ← beforeRender_srWalk p g q c rng, ← beforeRender_srFilt p g q c rng]
  exact renderShape_smoothRandom (by rw [hpar, hw])

end

theorem toNat_highByte (x : Half) : (x.extractLsb' 8 8).toNat = x.toNat / 256 := by
  have hx := x.isLt
  rw [BitVec.extractLsb'_toNat, Nat.shiftRight_eq_div_pow]
  omega

/-- Settles O47: an IDLE step keeps the walk and the filter, a live one moves them by `toNat_smoothWalk` and `toNat_smoothFilt`. -/
theorem smoothRandomWalksAndFilters : Obligations.SmoothRandomWalksAndFilters := by
  intro g q c rng hen hperiod hwave hfilt
  rw [channelStep_of_enabled hen hperiod]
  intro x r
  refine ⟨enabledStep_smooth_of_idle, fun hlive => ?_⟩
  obtain ⟨hwalk, hnext, hsample, hdir⟩ := enabledStep_smooth_of_live hwave hlive
  have hmoved : (r.srFilt.toNat : Int) =
      (c.render.srFilt.toNat : Int) + ((r.srWalk.toNat : Int) * 256 - (c.render.srFilt.toNat : Int)) / 4 := by
    rw [← toNat_smoothFilt hfilt]
    exact congrArg (fun filt : Half => (filt.toNat : Int)) hnext
  obtain ⟨-, hrange⟩ := filter_step_bounds hfilt (Nat.le_of_lt_succ r.srWalk.isLt)
  refine ⟨?_, hmoved, ?_, ?_, hdir⟩
  · rw [← toNat_drawByte, ← toNat_smoothWalk]
    exact congrArg (fun walk : Byte => (walk.toNat : Int)) hwalk
  · rw [← hmoved] at hrange
    exact_mod_cast hrange
  · rw [← toNat_highByte]
    exact congrArg BitVec.toNat hsample

end Sys2Proof.Machine
end

section
/-! PROOFS. The level latched after an enabled channel step (spec/42_tick.md R216, 43_waveform.md R266, R267). -/

namespace Sys2Proof.Machine

/-- The level of a live ANALOG channel: the clamp to 255 makes it fit (43_waveform.md R266). -/
theorem toNat_levelMap_of_live {c : Channel} (hkind : c.kind = .analog) (hlive : c.render.wstate ≠ .idle) (smp : Byte) :
    (levelMap c smp).toNat = min 255 (smp.toNat * c.par.level.toNat / 100 + c.par.offset.toNat * 255 / 100) := by
  have hfits (v : Nat) : (BitVec.ofNat 8 (min 255 v)).toNat = min 255 v :=
    (BitVec.toNat_ofNat ..).trans (Nat.mod_eq_of_lt (Nat.lt_succ_of_le (min_le_left ..)))
  cases hw : c.render.wstate with
  | idle => exact absurd hw hlive
  | active | decaying => simp only [levelMap, hkind, hw, hfits]

theorem levelMap_of_idle {c : Channel} (hkind : c.kind = .analog) (hidle : c.render.wstate = .idle) (smp : Byte) :
    levelMap c smp = offLevel c := by
  simp only [levelMap, hkind, hidle]

/-- LEVEL_MAP reads nothing that the latch of the level still changes, so it can be read off the channel the step leaves. -/
theorem enabledStep_levelOut (p : Params) (g q : Nat) (c : Channel) (rng : Word) :
    (enabledStep p g q c rng).chan.levelOut =
      levelMap (enabledStep p g q c rng).chan (enabledStep p g q c rng).chan.render.sample := rfl

/-- Settles O49: the gate is latched from the final sub-state, the level by LEVEL_MAP on the rendered sample. -/
theorem latchShowsGateAndLevel : Obligations.LatchShowsGateAndLevel := by
  intro s ch hen hperiod hoffset
  refine ⟨_, exec_tick s, ?_⟩
  rw [chan_afterTick, tickStep, channelStep_of_enabled hen hperiod]
  intro c
  have hgate : c.gateOut = !(c.render.wstate == .idle) := enabledStep_gateOut ..
  have hlevel : c.levelOut = levelMap c c.render.sample := enabledStep_levelOut ..
  have hpar : c.par = (s.chan ch).par := enabledStep_par ..
  rw [hlevel]
  refine ⟨by simp [hgate], fun hdigital => ?_, fun hanalog hidle => ?_,
    fun hanalog hlive => toNat_levelMap_of_live hanalog hlive _⟩
  · simp only [levelMap, hdigital]
  · rw [levelMap_of_idle hanalog hidle, toNat_offLevel (by rw [hpar]; exact hoffset), if_pos hanalog]

end Sys2Proof.Machine
end

section
/-! PROOFS. The words of the forms GD, C0, CA and GA (spec/30_encoding.md R96): which words with the form's opcode are legal, and
that a command of the form has one word. -/

namespace Sys2Proof

theorem decode_wordOf (o : BitVec 8) (c a : BitVec 4) (d : Half) : decode (wordOf o c a d) = decodeFields o c a d := by
  simp [decode]

/-- A word determines its fields (30_encoding.md R90). -/
theorem wordOf_eq_wordOf_iff {o : BitVec 8} {c c' a a' : BitVec 4} {d d' : Half} :
    wordOf o c a d = wordOf o c' a' d' ↔ c = c' ∧ a = a' ∧ d = d' := by
  constructor
  · intro h
    have hc := congrArg fieldCh h
    have ha := congrArg fieldAddr h
    have hd := congrArg fieldData h
    simp only [fieldCh_wordOf, fieldAddr_wordOf, fieldData_wordOf] at hc ha hd
    exact ⟨hc, ha, hd⟩
  · rintro ⟨rfl, rfl, rfl⟩
    rfl

/-- The CH fields up to 3 are the ones that name a channel (30_encoding.md R93). -/
theorem exists_eq_chanField_iff (c : BitVec 4) : (∃ ch, c = chanField ch) ↔ c.toNat ≤ 3 := by
  revert c; decide

end Sys2Proof

namespace Sys2Proof.Machine

/-- Which words with an opcode are legal, from which fields its form accepts. -/
theorem legalWords_of_decodeFields {o : BitVec 8} {p : Word → Prop}
    (h : ∀ c a d, (∃ i, decodeFields o c a d = .ok i) ↔ p (wordOf o c a d)) : LegalWords o p := by
  rintro w rfl
  rw [decode, h, wordOf_fields]

section
variable {o : BitVec 8}

theorem legalWords_of_formGD {f : Half → Instr} (hform : ∀ c a d, decodeFields o c a d = formGD c a d f) :
    LegalWords o (fun w => ∃ d, w = wordOf o 0 0 d) := by
  refine legalWords_of_decodeFields fun c a d => ?_
  simp only [hform, formGD_ok_iff, wordOf_eq_wordOf_iff]
  simp [BitVec.toNat_eq]

theorem legalWords_of_formC0 {f : Chan → Instr} (hform : ∀ c a d, decodeFields o c a d = formC0 c a d f) :
    LegalWords o (fun w => ∃ ch, w = wordOf o (chanField ch) 0 0) := by
  refine legalWords_of_decodeFields fun c a d => ?_
  simp only [hform, formC0_ok_iff, ← exists_eq_chanField_iff, wordOf_eq_wordOf_iff]
  simp [BitVec.toNat_eq]

theorem legalWords_of_formCA {last : Nat} {f : Chan → BitVec 4 → Instr}
    (hform : ∀ c a d, decodeFields o c a d = formCA last c a d f) :
    LegalWords o (fun w => ∃ (ch : Chan) (a : BitVec 4), a.toNat ≤ last ∧ w = wordOf o (chanField ch) a 0) := by
  refine legalWords_of_decodeFields fun c a d => ?_
  simp only [hform, formCA_ok_iff, ← exists_eq_chanField_iff, wordOf_eq_wordOf_iff]
  constructor
  · rintro ⟨ha, ⟨ch, hc⟩, hd⟩
    exact ⟨ch, a, ha, hc, rfl, BitVec.eq_of_toNat_eq hd⟩
  · rintro ⟨ch, a', ha, hc, rfl, rfl⟩
    exact ⟨ha, ⟨ch, hc⟩, rfl⟩

theorem legalWords_of_formGA {last : Nat} {f : BitVec 4 → Instr} (hform : ∀ c a d, decodeFields o c a d = formGA last c a d f) :
    LegalWords o (fun w => ∃ a : BitVec 4, a.toNat ≤ last ∧ w = wordOf o 0 a 0) := by
  refine legalWords_of_decodeFields fun c a d => ?_
  simp only [hform, formGA_ok_iff, wordOf_eq_wordOf_iff]
  constructor
  · rintro ⟨hc, ha, hd⟩
    exact ⟨a, ha, BitVec.eq_of_toNat_eq hc, rfl, BitVec.eq_of_toNat_eq hd⟩
  · rintro ⟨_, ha, rfl, rfl, rfl⟩
    exact ⟨rfl, ha, rfl⟩

theorem commandWord_of_formGD {f : Half → Instr} (hform : ∀ c a d, decodeFields o c a d = formGD c a d f) (d : Half) :
    CommandWord (f d) (wordOf o 0 0 d) :=
  commandWord_of_decode <| by simp [decode_wordOf, hform, formGD]

theorem commandWord_of_formC0 {f : Chan → Instr} (hform : ∀ c a d, decodeFields o c a d = formC0 c a d f) (ch : Chan) :
    CommandWord (f ch) (wordOf o (chanField ch) 0 0) :=
  commandWord_of_decode <| by simp [decode_wordOf, hform, formC0]

theorem commandWord_of_formCA {last : Nat} {f : Chan → BitVec 4 → Instr}
    (hform : ∀ c a d, decodeFields o c a d = formCA last c a d f) (ch : Chan) {a : BitVec 4} (ha : a.toNat ≤ last) :
    CommandWord (f ch a) (wordOf o (chanField ch) a 0) :=
  commandWord_of_decode <| by simp [decode_wordOf, hform, formCA, ha]

theorem commandWord_of_formGA {last : Nat} {f : BitVec 4 → Instr} (hform : ∀ c a d, decodeFields o c a d = formGA last c a d f)
    {a : BitVec 4} (ha : a.toNat ≤ last) : CommandWord (f a) (wordOf o 0 a 0) :=
  commandWord_of_decode <| by simp [decode_wordOf, hform, formGA, ha]

end

end Sys2Proof.Machine
end

section
/-! PROOFS. The commands that write one global register (spec/44_control.md R294, R296, R297). -/

namespace Sys2Proof.Machine

/-- SEED's operand fits RNG, and a zero operand is replaced by 1, the generator's fixed point being 0 (44_control.md R297). -/
theorem toNat_seedWord (d : Half) :
    (if zext16 d = 0 then (1 : Word) else BitVec.ofNat 32 (zext16 d)).toNat = if d.toNat = 0 then 1 else d.toNat := by
  have hfits : d.toNat < 2 ^ 32 := by omega
  unfold zext16
  split
  · rfl
  · exact (BitVec.toNat_ofNat ..).trans (Nat.mod_eq_of_lt hfits)

/-- Settles O28: each command ends with `rdata` 0 and its one register written, whose range fits the register. -/
theorem globalWritesChangeOneRegister : Obligations.GlobalWritesChangeOneRegister :=
  ⟨legalWords_of_formGD (f := .setPpqn) fun _ _ _ => rfl, legalWords_of_formG0 (j := .clrGtick) fun _ _ _ => rfl,
    legalWords_of_formGD (f := .seed) fun _ _ _ => rfl, fun d _ =>
    ⟨⟨_, toNat_clampReg (sext16 d) (by decide) (by decide) (by decide), commandWord_of_formGD (fun _ _ _ => rfl) d, rfl⟩,
      ⟨commandWord_of_formG0 (o := 0x06) fun _ _ _ => rfl, rfl⟩,
      ⟨_, toNat_seedWord d, commandWord_of_formGD (fun _ _ _ => rfl) d, rfl⟩⟩⟩

end Sys2Proof.Machine
end

section
/-! PROOFS. The master pause (spec/44_control.md R291 to R293): RESUME turns on exactly the channels that `State.heldEn` names, and
every command but SET_OUT_EN keeps them. -/

namespace Sys2Proof.Machine

/-! ### The enables a pause holds back -/

/-- OUT_EN of channel `ch` as it stands outside a master pause: during one it waits in PREV_EN. -/
def State.heldEn (s : State) (ch : Chan) : Bool := if s.paused then (s.chan ch).prevEn else (s.chan ch).par.outEn

theorem heldEn_of_paused {s : State} (h : s.paused = true) (ch : Chan) : s.heldEn ch = (s.chan ch).prevEn := by
  simp [State.heldEn, h]

theorem heldEn_of_not_paused {s : State} (h : s.paused = false) (ch : Chan) : s.heldEn ch = (s.chan ch).par.outEn := by
  simp [State.heldEn, h]

/-- RESUME ends a pause, if there is one, and turns on the channels held back. -/
theorem exec_resume_restores (s : State) :
    ∃ t, exec .resume s = .next t ∧ t.paused = false ∧ ∀ ch, (t.chan ch).par.outEn = s.heldEn ch := by
  refine ⟨_, rfl, ?_⟩
  cases h : s.paused with
  | false => exact ⟨by simp [h], fun ch => by simp [heldEn_of_not_paused h]⟩
  | true =>
    refine ⟨by simp, fun ch => ?_⟩
    simp [heldEn_of_paused h, State.chan]

/-! ### What keeps them -/

/-- The command answers a state, with the enables of `s` that a pause holds back. -/
def KeepsHeld (s : State) (o : Host.Outcome State Fault Refusal) : Prop := ∃ t, o = .next t ∧ ∀ ch, t.heldEn ch = s.heldEn ch

/-- The channel has the enable and the snapshot of `c`. -/
def SameEnables (c c' : Channel) : Prop := c'.par.outEn = c.par.outEn ∧ c'.prevEn = c.prevEn

theorem heldEn_congr {s t : State} (hpaused : t.paused = s.paused) (h : ∀ ch, SameEnables (s.chan ch) (t.chan ch)) (ch : Chan) :
    t.heldEn ch = s.heldEn ch := by
  obtain ⟨hout, hprev⟩ := h ch
  rw [State.heldEn, State.heldEn, hpaused, hout, hprev]

theorem keepsHeld_setter {f : Channel → Channel} (hf : ∀ c, SameEnables c (f c)) (ch : Chan) (s : State) :
    KeepsHeld s (setter ch f s) := by
  refine ⟨_, setter_eq ch f s, heldEn_congr rfl fun ch' => ?_⟩
  by_cases h : ch' = ch
  · subst h
    rw [State.chan_afterChan_same]
    exact hf _
  · rw [State.chan_afterChan_ne _ _ h]
    exact ⟨rfl, rfl⟩

theorem keepsHeld_setPar {f : ParamRegs → ParamRegs} (hf : ∀ r, (f r).outEn = r.outEn) (ch : Chan) (s : State) :
    KeepsHeld s (setPar ch f s) :=
  keepsHeld_setter (f := fun c => { c with par := f c.par }) (fun c => ⟨hf c.par, rfl⟩) ch s

theorem keepsHeld_setEuc {f : ParamRegs → ParamRegs} (hf : ∀ r, (f r).outEn = r.outEn) (ch : Chan) (s : State) :
    KeepsHeld s (setEuc ch f s) := by
  refine keepsHeld_setter (fun c => ?_) ch s
  unfold regenIfEnabled
  split <;> exact ⟨hf c.par, rfl⟩

/-- A read keeps every channel, whether or not its address is one of its space. -/
theorem keepsHeld_readOrIllegal (v : Option Half) (s : State) : KeepsHeld s (readOrIllegal v s) := by
  cases v <;> exact ⟨_, rfl, fun _ => rfl⟩

theorem sameEnables_channelStep (p : Params) (g q : Nat) (c : Channel) (rng : Word) :
    SameEnables c (channelStep p g q c rng).chan := by
  obtain ⟨-, h⟩ | ⟨-, -, h⟩ | ⟨-, -, h⟩ := channelStep_cases p g q c rng
  · rw [h]; exact ⟨rfl, rfl⟩
  · rw [h]; exact ⟨rfl, rfl⟩
  · obtain ⟨_, _, hstart⟩ := startStep_chan p (c.starts p g q) (countTick c) rng
    rw [h]
    refine ⟨congrArg ParamRegs.outEn (enabledStep_par ..), ?_⟩
    simp [enabledStep, renderLatch, hstart]

theorem keepsHeld_tick (s : State) : KeepsHeld s (exec .tick s) :=
  ⟨_, exec_tick s, heldEn_congr rfl fun ch => by
    rw [chan_afterTick]
    exact sameEnables_channelStep ..⟩

theorem keepsHeld_extPulse (s : State) : KeepsHeld s (exec .extPulse s) := by
  refine ⟨_, exec_extPulse s, heldEn_congr rfl fun ch => ?_⟩
  have hchan : State.chan { s with rdata := 0, chans := s.chans.map (extPulseChannel defaultParams) } ch =
      extPulseChannel defaultParams (s.chan ch) := Channels.get_map ..
  rw [hchan]
  unfold extPulseChannel
  split <;> exact ⟨rfl, rfl⟩

/-- PAUSE moves the enables into the snapshot and says so in PAUSED; while paused it does nothing. -/
theorem keepsHeld_pause (s : State) : KeepsHeld s (exec .pause s) := by
  refine ⟨_, rfl, fun ch => ?_⟩
  cases h : s.paused with
  | false => simp [State.heldEn, h, State.chan]
  | true => simp [State.heldEn, h]

theorem keepsHeld_resume (s : State) : KeepsHeld s (exec .resume s) := by
  obtain ⟨t, ht, hpaused, hout⟩ := exec_resume_restores s
  exact ⟨t, ht, fun ch => (heldEn_of_not_paused hpaused ch).trans (hout ch)⟩

/-- No command but SET_OUT_EN changes which channels a RESUME would leave on. -/
theorem keepsHeld_exec {i : Instr} (hi : i.isSetOutEn = false) (s : State) : KeepsHeld s (exec i s) := by
  cases i with
  | setOutEn ch d => cases hi
  | tick => exact keepsHeld_tick s
  | extPulse => exact keepsHeld_extPulse s
  | pause => exact keepsHeld_pause s
  | resume => exact keepsHeld_resume s
  | nop | setPpqn | clrGtick | seed | rdOut | rdParam => exact ⟨_, rfl, fun _ => rfl⟩
  | setEucEn ch d | setExtclk ch d =>
    rw [exec]
    refine keepsHeld_setter (fun c => ?_) ch s
    dsimp only
    split <;> exact ⟨rfl, rfl⟩
  | setEucSteps ch d | setEucTrig ch d | setEucRot ch d | setEucPad ch d =>
    rw [exec]
    exact keepsHeld_setEuc (fun _ => by rfl) ch s
  | rdState | rdRhythm | rdGlobal => exact keepsHeld_readOrIllegal _ s
  | setDiv ch d =>
    rw [exec, execSetDiv]
    exact keepsHeld_setPar (fun _ => by rfl) ch s
  | setSwingAmt ch d =>
    rw [exec, execSetSwingAmt]
    exact keepsHeld_setPar (fun _ => by rfl) ch s
  | setDuty ch | setPhase ch | setLevel ch | setOffset ch | setSwingEvery ch | setProb ch | setWave ch =>
    rw [exec]
    exact keepsHeld_setPar (fun _ => by rfl) ch s

/-! ### Runs -/

/-- Any run without SET_OUT_EN that ends in RESUME leaves on exactly the channels held back at its beginning. -/
theorem execAll_resume_restores {is : List Instr} (his : ∀ i ∈ is, i.isSetOutEn = false) (s : State) :
    ∃ t, execAll (is ++ [.resume]) s = .next t ∧ t.paused = false ∧ ∀ ch, (t.chan ch).par.outEn = s.heldEn ch := by
  induction is generalizing s with
  | nil =>
    obtain ⟨t, ht, hspec⟩ := exec_resume_restores s
    exact ⟨t, by simp [execAll, ht], hspec⟩
  | cons i is ih =>
    obtain ⟨hi, his⟩ := List.forall_mem_cons.mp his
    obtain ⟨t, ht, hheld⟩ := keepsHeld_exec hi s
    obtain ⟨u, hu, hpaused, hout⟩ := ih his t
    exact ⟨u, by simp [execAll, ht, hu], hpaused, fun ch => (hout ch).trans (hheld ch)⟩

/-! ### SET_OUT_EN during a pause -/

/-- A flag operand is on exactly when it is positive (41_setters.md R164). -/
theorem clampFlag_eq (v : Int) : clampFlag v = decide (0 < v) := by
  rw [Bool.eq_iff_iff]
  simp only [clampFlag, clamp, beq_iff_eq, decide_eq_true_eq]
  omega

/-- SET_OUT_EN during a pause writes the enable held back, and the pause goes on (41_setters.md R164). -/
theorem exec_setOutEn_of_paused {s : State} (h : s.paused = true) (ch : Chan) (d : Half) :
    ∃ t, exec (.setOutEn ch d) s = .next t ∧ t.paused = true ∧ t.heldEn ch = decide (0 < d.toInt) ∧
      ∀ c, c ≠ ch → t.heldEn c = s.heldEn c := by
  have hset : exec (.setOutEn ch d) s = .next (s.afterChan ch { s.chan ch with prevEn := clampFlag (sext16 d) }) := by
    rw [exec, execSetOutEn, setter_eq]
    simp only [h, if_true]
  refine ⟨_, hset, h, ?_, fun c hc => ?_⟩
  · rw [heldEn_of_paused (s := s.afterChan ch _) h, State.chan_afterChan_same]
    exact clampFlag_eq d.toInt
  · rw [heldEn_of_paused (s := s.afterChan ch _) h, heldEn_of_paused h, State.chan_afterChan_ne _ _ hc]

/-- Settles O27: PAUSE is itself one of the commands that keep the enables held back, and outside a pause those are the OUT_ENs; a
SET_OUT_EN during a pause writes the one of its channel. -/
theorem pauseThenResumeRestoresOutEn : Obligations.PauseThenResumeRestoresOutEn := by
  refine ⟨fun s is hpaused his => ?_, fun s ch d hpaused => ?_⟩
  · have hrun : ∀ i ∈ Instr.pause :: is, i.isSetOutEn = false := List.forall_mem_cons.mpr ⟨rfl, his⟩
    obtain ⟨t, ht, hresumed, hout⟩ := execAll_resume_restores hrun s
    exact ⟨t, ht, hresumed, fun ch => (hout ch).trans (heldEn_of_not_paused hpaused ch)⟩
  · obtain ⟨t, ht, htpaused, hwritten, hothers⟩ := exec_setOutEn_of_paused hpaused ch d
    obtain ⟨u, hu, -, hout⟩ := exec_resume_restores t
    exact ⟨t, u, ht, htpaused, hu, (hout ch).trans hwritten,
      fun c hc => ((hout c).trans (hothers c hc)).trans (heldEn_of_paused hpaused c)⟩

end Sys2Proof.Machine
end

section
/-! PROOFS. The readback spaces (spec/20_memory.md R72, R73) and the read commands (44_control.md R303 to R307): what each space
holds as a list of numbers, and that a read inside its space changes `rdata` alone. -/

namespace Sys2Proof.Machine

/-! ### The words of the spaces as numbers -/

theorem bit_eq_toNat (b : Bool) : bit b = b.toNat := by cases b <;> rfl

theorem toNat_flagWord (b : Bool) : (flagWord b).toNat = b.toNat := by cases b <;> rfl

/-- The low word of a 32-bit register (20_memory.md R75). -/
theorem toNat_wordAt_zero (v : Word) : (wordAt 32 v 0).toNat = v.toNat % 65536 := by
  simp [wordAt]

/-- The high word of a 32-bit register (20_memory.md R75). -/
theorem toNat_wordAt_one (v : Word) : (wordAt 32 v 1).toNat = v.toNat / 65536 := by
  have hv := v.isLt
  simp only [wordAt, BitVec.extractLsb'_toNat, Nat.shiftRight_eq_div_pow]
  omega

theorem toNat_statusWord (st : Status) : st.word.toNat = st.ill.toNat + 2 * st.zper.toNat := by
  have hill := st.ill.toNat_lt
  have hzper := st.zper.toNat_lt
  rw [Status.word, bit_eq_toNat, bit_eq_toNat, BitVec.toNat_ofNat]
  omega

/-- The fields of STATE address 3 do not overlap and fit the word (20_memory.md R72). -/
theorem toNat_flagsWord (c : Channel) :
    (flagsWord c).toNat = c.render.wstate.code + 4 * c.render.dir.toNat + 8 * c.pend.toNat + 16 * c.prevEn.toNat +
      32 * kindCode c.kind + 64 * c.chId.toNat := by
  have hwstate : c.render.wstate.code ≤ 2 := by cases c.render.wstate <;> decide
  have hkind : kindCode c.kind ≤ 1 := by cases c.kind <;> decide
  have hdir := c.render.dir.toNat_lt
  have hpend := c.pend.toNat_lt
  have hprev := c.prevEn.toNat_lt
  have hchId := c.chId.isLt
  simp only [flagsWord, bit_eq_toNat, BitVec.toNat_ofNat]
  omega

/-- RD_OUT's word is its three fields put together (44_control.md R303). -/
theorem outWord_eq_append (c : Channel) :
    outWord c = (0#7 ++ (BitVec.ofBool c.gateOut ++ c.levelOut : BitVec 9) : BitVec (7 + 9)) := by
  have hlevel := c.levelOut.isLt
  have hgate := c.gateOut.toNat_lt
  apply BitVec.eq_of_toNat_eq
  rw [BitVec.toNat_append, BitVec.toNat_append, BitVec.toNat_ofBool, ← Nat.shiftLeft_add_eq_or_of_lt hlevel, outWord, bit_eq_toNat]
  simp only [BitVec.toNat_ofNat, Nat.zero_mod, Nat.shiftLeft_eq, Nat.zero_mul, Nat.zero_or]
  omega

/-! ### What each space holds -/

/-- The nine words of STATE (20_memory.md R72). -/
def stateSpace (c : Channel) : List Nat :=
  [c.cursor.toNat, c.render.elapsed.toNat % 65536, c.render.elapsed.toNat / 65536,
    c.render.wstate.code + 4 * c.render.dir.toNat + 8 * c.pend.toNat + 16 * c.prevEn.toNat + 32 * kindCode c.kind + 64 * c.chId.toNat,
    c.render.sample.toNat, c.render.shHold.toNat, c.render.srWalk.toNat, c.render.srFilt.toNat, c.extcnt.toNat]

/-- The seven words of GLOBAL (20_memory.md R73). -/
def globalSpace (s : State) : List Nat :=
  [s.ppqn.toNat, s.gtick.toNat % 65536, s.gtick.toNat / 65536, s.status.ill.toNat + 2 * s.status.zper.toNat, s.paused.toNat,
    s.rng.toNat % 65536, s.rng.toNat / 65536]

/-- A read of STATE answers the space's word, and nothing at an address beyond it. -/
theorem map_toNat_readState (c : Channel) : ∀ a, (readState c a).map BitVec.toNat = (stateSpace c)[a]?
  | 0 | 4 | 5 | 6 | 8 => congrArg some (BitVec.toNat_setWidth_of_le (by decide))
  | 1 => congrArg some (toNat_wordAt_zero _)
  | 2 => congrArg some (toNat_wordAt_one _)
  | 3 => congrArg some (toNat_flagsWord c)
  | 7 | _ + 9 => rfl

/-- A read of GLOBAL answers the space's word, and nothing at an address beyond it. -/
theorem map_toNat_readGlobal (s : State) : ∀ a, (readGlobal s a).map BitVec.toNat = (globalSpace s)[a]?
  | 1 | 5 => congrArg some (toNat_wordAt_zero _)
  | 2 | 6 => congrArg some (toNat_wordAt_one _)
  | 3 => congrArg some (toNat_statusWord _)
  | 4 => congrArg some (toNat_flagWord _)
  | 0 | _ + 7 => rfl

/-- A read inside a space writes the space's word to `rdata` and changes nothing else (44_control.md R300). -/
theorem readOrIllegal_of_space {v : Option Half} {space : List Nat} {a : Nat} (hv : v.map BitVec.toNat = space[a]?)
    (ha : a < space.length) (s : State) :
    ∃ x : Half, readOrIllegal v s = .next { s with rdata := x } ∧ space[a]? = some x.toNat := by
  cases v with
  | none => simp [ha] at hv
  | some x => exact ⟨x, rfl, hv.symm⟩

theorem readRhythm_of_le (c : Channel) {a : Nat} (ha : a ≤ 3) : readRhythm c a = some (wordAt 64 c.rhythm a) := if_pos ha

/-- Bit `b` of word `w` of RHYTHM is bit `16 w + b` of the register (20_memory.md R73). -/
theorem getLsbD_wordAt {n : Nat} (v : BitVec n) (w : Nat) {b : Nat} (hb : b < 16) :
    (wordAt n v w).getLsbD b = v.getLsbD (16 * w + b) := by
  simp [wordAt, hb]

/-! ### The read commands -/

/-- Settles O30: the word read is the two latches put together, and the ports show the latches. -/
theorem rdOutReadsTheLatches : Obligations.RdOutReadsTheLatches := by
  refine ⟨legalWords_of_formC0 (f := .rdOut) fun _ _ _ => rfl, fun ch s =>
    ⟨commandWord_of_formC0 (fun _ _ _ => rfl) ch, outWord (s.chan ch), rfl, ?_, ?_, ?_, rfl, rfl⟩⟩
  all_goals rw [outWord_eq_append]
  · exact (extract_lower _ _ 0 8 (by decide)).trans ((extract_lower _ _ 0 8 (by decide)).trans BitVec.extractLsb'_eq_self)
  · simp only [BitVec.getLsbD_append]
    simp [State.gatePort]
  · exact extract_upper _ _

/-- Settles O32: the address is inside the space, and the space holds the statement's nine words. -/
theorem rdStateReadsTheStateSpace : Obligations.RdStateReadsTheStateSpace :=
  ⟨legalWords_of_formCA (f := .rdState) fun _ _ _ => rfl, fun ch a s ha =>
    ⟨commandWord_of_formCA (fun _ _ _ => rfl) ch ha,
      readOrIllegal_of_space (map_toNat_readState (s.chan ch) a.toNat) (Nat.lt_succ_of_le ha) s⟩⟩

/-- Settles O33: word `a` of RHYTHM is sixteen bits of the register from bit `16 a` on. -/
theorem rdRhythmReadsTheSteps : Obligations.RdRhythmReadsTheSteps := by
  refine ⟨legalWords_of_formCA (f := .rdRhythm) fun _ _ _ => rfl, fun ch a s ha =>
    ⟨commandWord_of_formCA (fun _ _ _ => rfl) ch ha, wordAt 64 (s.chan ch).rhythm a.toNat, ?_, fun b hb => getLsbD_wordAt _ _ hb⟩⟩
  rw [exec, execRdRhythm, readRhythm_of_le _ ha]
  rfl

/-- Settles O34: the address is inside the space, and the space holds the statement's seven words. -/
theorem rdGlobalReadsTheGlobalSpace : Obligations.RdGlobalReadsTheGlobalSpace :=
  ⟨legalWords_of_formGA (f := .rdGlobal) fun _ _ _ => rfl, fun a s ha =>
    ⟨commandWord_of_formGA (fun _ _ _ => rfl) ha,
      readOrIllegal_of_space (map_toNat_readGlobal s a.toNat) (Nat.lt_succ_of_le ha) s⟩⟩

end Sys2Proof.Machine
end

section
/-! PROOFS. The reset state (spec/70_reset_and_hazards.md R361): its channels differ in their hardwired identity alone, and their
RHYTHM is the pattern of the reset Euclidean parameters (40_euclid.md R124). -/

namespace Sys2Proof.Machine

/-! ### The channels after reset -/

/-- After reset channel `ch` is the one reset channel with the identity that the build gives `ch` (10_state.md R38). -/
theorem chan_resetWith (p : Params) (ch : Chan) :
    (State.resetWith p).chan ch = Channel.reset p (BitVec.ofNat 2 ch.val) (p.chKind ch) := by
  fin_cases ch <;> rfl

/-- The default CH_KIND (00_scope.md R10): the first two channels are DIGITAL. -/
theorem chKind_defaultParams (ch : Chan) : defaultParams.chKind ch = if ch.val < 2 then .digital else .analog := by
  fin_cases ch <;> rfl

/-! ### The reset pattern -/

/-- 4 triggers pair evenly with the 12 other steps of 16: four groups of one trigger and three rests (40_euclid.md R122). -/
theorem bj_four_sixteen : bj 4 16 = (List.replicate 4 [true, false, false, false]).flatten := by decide

/-- `GEN(16, 4, 0, 0)` is the base pattern unrotated, so that every fourth bit is set (40_euclid.md R124). -/
theorem gen_reset : gen 16 4 0 0 = 0x0000000000001111 := by
  rw [gen, eucRom_eq_bj (by decide) (by decide) (by decide), rotated_zero (length_bj (by decide)), bj_four_sixteen]
  rfl

/-- What REGEN would write for the reset Euclidean parameters is the reset RHYTHM, in every build. -/
theorem rhythm_reset (p : Params) (chId : BitVec 2) (kind : Kind) :
    (Channel.reset p chId kind).rhythm = (ParamRegs.reset p).pattern :=
  gen_reset.symm

/-! ### The Euclidean invariants -/

/-- The reset Euclidean parameters meet the invariants of 10_state.md R40, in every build. -/
theorem euclid_bounds_reset (p : Params) :
    (ParamRegs.reset p).eucTrig.toNat ≤ (ParamRegs.reset p).eucSteps.toNat ∧
    (ParamRegs.reset p).eucRot.toNat ≤ (ParamRegs.reset p).eucSteps.toNat - 1 ∧
    (ParamRegs.reset p).seqLen ≤ 64 := by
  simp [ParamRegs.reset, ParamRegs.seqLen]

/-- Settles O9: the global registers are the literals of the table, and each channel is the reset channel with its identity. -/
theorem resetStateValues : Obligations.ResetStateValues := by
  refine ⟨rfl, rfl, rfl, rfl, rfl, rfl, fun ch => ?_⟩
  have hchan : State.reset.chan ch = Channel.reset defaultParams (BitVec.ofNat 2 ch.val) (defaultParams.chKind ch) :=
    chan_resetWith defaultParams ch
  obtain ⟨htrig, hrot, hlen⟩ := euclid_bounds_reset defaultParams
  rw [hchan]
  refine ⟨?_, htrig, hrot, hlen, rhythm_reset _ _ _⟩
  rw [chKind_defaultParams]
  rfl

end Sys2Proof.Machine
end

section
/-! PROOFS. The decoder and the encoder are inverse to each other on the well-formed commands and the legal words
(spec/30_encoding.md R91, R95, R96): one lemma per form in each direction. -/

namespace Sys2Proof

/-! ### Decoding a command's own word -/

section
variable {o : BitVec 8}

theorem decode_encode_of_formG0 {j : Instr} (hj : encode j = wordOf o 0 0 0)
    (hform : ∀ c a d, decodeFields o c a d = formG0 c a d j) : decode (encode j) = .ok j := by
  rw [hj, Machine.decode_wordOf_of_formG0 hform]

theorem decode_encode_of_formGD {f : Half → Instr} {d : Half} (hf : encode (f d) = wordOf o 0 0 d)
    (hform : ∀ c a d, decodeFields o c a d = formGD c a d f) : decode (encode (f d)) = .ok (f d) := by
  simp [hf, decode_wordOf, hform, formGD]

theorem decode_encode_of_formCD {f : Chan → Half → Instr} {ch : Chan} {d : Half}
    (hf : encode (f ch d) = wordOf o (chanField ch) 0 d) (hform : ∀ c a d, decodeFields o c a d = formCD c a d f) :
    decode (encode (f ch d)) = .ok (f ch d) := by
  rw [hf, decode_wordOf, hform, formCD_chanField]

theorem decode_encode_of_formC0 {f : Chan → Instr} {ch : Chan} (hf : encode (f ch) = wordOf o (chanField ch) 0 0)
    (hform : ∀ c a d, decodeFields o c a d = formC0 c a d f) : decode (encode (f ch)) = .ok (f ch) := by
  simp [hf, decode_wordOf, hform, formC0]

theorem decode_encode_of_formCA {last : Nat} {f : Chan → BitVec 4 → Instr} {ch : Chan} {a : BitVec 4}
    (hf : encode (f ch a) = wordOf o (chanField ch) a 0) (hform : ∀ c a d, decodeFields o c a d = formCA last c a d f)
    (ha : a.toNat ≤ last) : decode (encode (f ch a)) = .ok (f ch a) := by
  simp [hf, decode_wordOf, hform, formCA, ha]

theorem decode_encode_of_formGA {last : Nat} {f : BitVec 4 → Instr} {a : BitVec 4} (hf : encode (f a) = wordOf o 0 a 0)
    (hform : ∀ c a d, decodeFields o c a d = formGA last c a d f) (ha : a.toNat ≤ last) : decode (encode (f a)) = .ok (f a) := by
  simp [hf, decode_wordOf, hform, formGA, ha]

end

/-- The word of a well-formed command carries the opcode of the form that decodes it (30_encoding.md R95, R96). -/
theorem decode_encode {i : Instr} (h : i.wf = true) : decode (encode i) = .ok i := by
  cases i with
  | nop | tick | extPulse | pause | resume | clrGtick => exact decode_encode_of_formG0 rfl fun _ _ _ => rfl
  | setPpqn d | seed d => exact decode_encode_of_formGD rfl fun _ _ _ => rfl
  | rdOut ch => exact decode_encode_of_formC0 rfl fun _ _ _ => rfl
  | rdParam ch a => exact decode_encode_of_formCA rfl (fun _ _ _ => rfl) (Nat.le_of_lt_succ a.isLt)
  | rdState ch a | rdRhythm ch a => exact decode_encode_of_formCA rfl (fun _ _ _ => rfl) (of_decide_eq_true h)
  | rdGlobal a => exact decode_encode_of_formGA rfl (fun _ _ _ => rfl) (of_decide_eq_true h)
  | setDiv | setDuty | setPhase | setLevel | setOffset | setSwingAmt | setSwingEvery | setProb | setEucEn | setEucSteps | setEucTrig
  | setEucRot | setEucPad | setWave | setOutEn | setExtclk => exact decode_encode_of_formCD rfl fun _ _ _ => rfl

/-! ### What decodes is well formed -/

section
variable {c a : BitVec 4} {d : Half} {i : Instr}

theorem wf_of_formG0 {j : Instr} (hj : j.wf = true) (h : formG0 c a d j = .ok i) : i.wf = true := by
  obtain ⟨-, hi⟩ := (guard_eq_ok_iff ..).mp h
  cases hi; exact hj

theorem wf_of_formGD {f : Half → Instr} (hf : ∀ d, (f d).wf = true) (h : formGD c a d f = .ok i) : i.wf = true := by
  obtain ⟨-, hi⟩ := (guard_eq_ok_iff ..).mp h
  cases hi; exact hf d

theorem wf_of_formCD {f : Chan → Half → Instr} (hf : ∀ ch d, (f ch d).wf = true) (h : formCD c a d f = .ok i) : i.wf = true := by
  unfold formCD at h
  split at h
  case h_1 => cases h
  case h_2 ch _ =>
    obtain ⟨-, hi⟩ := (guard_eq_ok_iff ..).mp h
    cases hi; exact hf ch d

theorem wf_of_formC0 {f : Chan → Instr} (hf : ∀ ch, (f ch).wf = true) (h : formC0 c a d f = .ok i) : i.wf = true := by
  unfold formC0 at h
  split at h
  case h_1 => cases h
  case h_2 ch _ =>
    obtain ⟨-, hi⟩ := (guard_eq_ok_iff ..).mp h
    cases hi; exact hf ch

theorem wf_of_formCA {last : Nat} {f : Chan → BitVec 4 → Instr} (h : formCA last c a d f = .ok i)
    (hf : ∀ ch a, a.toNat ≤ last → (f ch a).wf = true) : i.wf = true := by
  unfold formCA at h
  split at h
  case h_1 => cases h
  case h_2 ch _ =>
    obtain ⟨ha, hguard⟩ := (guard_eq_ok_iff ..).mp h
    obtain ⟨-, hi⟩ := (guard_eq_ok_iff ..).mp hguard
    cases hi; exact hf ch a ha

theorem wf_of_formGA {last : Nat} {f : BitVec 4 → Instr} (h : formGA last c a d f = .ok i)
    (hf : ∀ a, a.toNat ≤ last → (f a).wf = true) : i.wf = true := by
  obtain ⟨-, hguard⟩ := (guard_eq_ok_iff ..).mp h
  obtain ⟨ha, hi⟩ := (guard_eq_ok_iff ..).mp hguard
  cases hi; exact hf a ha

/-- The bound on the address of a read's form is the one its well-formedness asks for (30_encoding.md R94, R96). -/
theorem wf_of_decodeFields {o : BitVec 8} (h : decodeFields o c a d = .ok i) : i.wf = true := by
  unfold decodeFields at h
  split at h
  case h_1 | h_2 | h_3 | h_4 | h_5 | h_7 => exact wf_of_formG0 rfl h
  case h_6 | h_8 => exact wf_of_formGD (fun _ => rfl) h
  case h_25 => exact wf_of_formC0 (fun _ => rfl) h
  case h_26 => exact wf_of_formCA h fun _ _ _ => rfl
  case h_27 | h_28 => exact wf_of_formCA h fun _ _ => decide_eq_true
  case h_29 => exact wf_of_formGA h fun _ => decide_eq_true
  case h_30 => cases h
  all_goals exact wf_of_formCD (fun _ _ => rfl) h

end

theorem wf_of_decode {w : Word} {i : Instr} (h : decode w = .ok i) : i.wf = true :=
  wf_of_decodeFields h

/-- Settles O1: the word of each command carries the opcode and the fields of the form that decodes it. -/
theorem decodeOfEncodeIsTheCommand : Obligations.DecodeOfEncodeIsTheCommand := fun _ => decode_encode

/-- Settles O2: a form's word is put together again from its fields, and the form checks the read's address. -/
theorem encodeOfDecodeIsTheWord : Obligations.EncodeOfDecodeIsTheWord := fun _ _ h => ⟨encode_of_decode h, wf_of_decode h⟩

/-- Settles O4: the first six words are those of the commands; the last four fail the check of their form. -/
theorem exampleWordsDecode : Obligations.ExampleWordsDecode := by
  refine ⟨decode_encode (i := .tick) rfl, decode_encode (i := .setPpqn 24) rfl, decode_encode (i := .setDuty 2 25) rfl,
    decode_encode (i := .rdOut 1) rfl, decode_encode (i := .rdState 3 1) rfl, decode_encode (i := .rdGlobal 3) rfl, ?_⟩
  decide

end Sys2Proof
end

section
/-! PROOFS. One command step by the port values it takes (spec/00_scope.md R7, 70_reset_and_hazards.md R360), and that none stops
(60_exceptions.md R330). -/

namespace Sys2Proof.Machine

section
variable {s : State} {w : Word} {rest : List PortIn}

theorem presented_of_inputs {x : PortIn} (h : s.inputs = x :: rest) : s.presented = x := by
  rw [State.presented, h, List.headD_cons]

theorem consume_of_inputs {x : PortIn} (h : s.inputs = x :: rest) : s.consume = { s with inputs := rest } := by
  rw [State.consume, h, List.tail_cons]

theorem step_of_rst {v : Bool} (h : s.inputs = ⟨true, v, w⟩ :: rest) :
    step s = .next (applyReset defaultParams { s with inputs := rest }) := by
  simp only [step, stepBy, presented_of_inputs h, consume_of_inputs h, if_true]

theorem step_of_cmdValid (h : s.inputs = ⟨false, true, w⟩ :: rest) : step s = runWord w { s with inputs := rest } := by
  simp only [step, stepBy, presented_of_inputs h, consume_of_inputs h, Bool.false_eq_true, if_false, if_true, runWord]

theorem step_of_not_cmdValid (h : s.inputs = ⟨false, false, w⟩ :: rest) : step s = .next { s with inputs := rest } := by
  simp only [step, stepBy, presented_of_inputs h, consume_of_inputs h, Bool.false_eq_true, if_false]

theorem step_of_no_inputs (h : s.inputs = []) : step s = .next s := by
  have hpresented : s.presented = ⟨false, false, 0⟩ := by rw [State.presented, h, List.headD_nil]
  have hconsume : s.consume = s := by rw [State.consume, h, List.tail_nil, ← h]
  simp only [step, stepBy, hpresented, hconsume, Bool.false_eq_true, if_false]

theorem runWord_of_decode_ok {i : Instr} (h : decode w = .ok i) (s : State) : runWord w s = exec i s := by
  simp [runWord, runWordBy, h]

end

/-- Settles O5: with `rst = 0` and `cmd_valid = 1` the step is the word's run, which is `exec` of what it decodes to. -/
theorem stepRunsTheDecodedCommand : Obligations.StepRunsTheDecodedCommand :=
  ⟨fun _ _ _ _ hin hdecode _ => (step_of_cmdValid hin).trans (runWord_of_decode_ok hdecode _), fun _ _ _ => step_of_cmdValid⟩

/-- Settles O7: without a valid command a step takes the port values and does nothing else. -/
theorem invalidCommandChangesNothing : Obligations.InvalidCommandChangesNothing :=
  fun _ => ⟨step_of_no_inputs, fun _ _ => step_of_not_cmdValid⟩

/-- A reset keeps the identity of each channel and gives it every other reset value (10_state.md R38). -/
theorem chan_applyReset (p : Params) (s : State) (ch : Chan) :
    (applyReset p s).chan ch = Channel.reset p (s.chan ch).chId (s.chan ch).kind := by
  fin_cases ch <;> rfl

/-- Settles O8: the reset channel of any identity is the power-on channel with that identity. -/
theorem resetStepGivesResetState : Obligations.ResetStepGivesResetState := by
  intro s v w rest hin
  refine ⟨_, step_of_rst hin, rfl, fun ch => ?_⟩
  rw [chan_applyReset, State.reset, chan_resetWith]
  rfl

/-- Every command answers a next state: a read outside its space raises ILLEGAL and goes on (60_exceptions.md R330). -/
theorem exec_total (i : Instr) (s : State) : ∃ t, exec i s = .next t := by
  have hread (v : Option Half) : ∃ t, readOrIllegal v s = .next t := by
    cases v <;> exact ⟨_, rfl⟩
  cases i with
  | rdState | rdRhythm | rdGlobal => exact hread _
  | _ => exact ⟨_, rfl⟩

theorem step_total (s : State) : ∃ t, step s = .next t := by
  unfold step stepBy
  split
  · exact ⟨_, rfl⟩
  · split
    · cases hd : decode s.presented.cmd with
      | ok i =>
        obtain ⟨t, ht⟩ := exec_total i s.consume
        exact ⟨t, (runWord_of_decode_ok hd _).trans ht⟩
      | error e => exact ⟨_, runWordBy_of_decode_error hd _⟩
    · exact ⟨_, rfl⟩

/-- Settles O10: no arm of `exec` and no branch of `step` answers anything but a next state. -/
theorem nothingStopsTheMachine : Obligations.NothingStopsTheMachine := ⟨step_total, exec_total⟩

end Sys2Proof.Machine
end

section
/-! PROOFS. The default parameters meet the constraints of the spec (spec/42_tick.md R191, R196, R226; 43_waveform.md R250): the tables
by evaluation, xorshift32 because each of its three steps can be undone, SINE_WARP from the order that `warpReaches` keeps. -/

namespace Sys2Proof.Machine

/-! ### The tables (42_tick.md R199) -/

theorem divTableLegal_default : defaultParams.DivTableLegal := by
  have hratio : ∀ i, i < 15 → ((defaultParams.ratio i).num = (defaultParams.ratio i).den ↔ i = 8) ∧
      (8 ≤ i → (defaultParams.ratio i).den ≤ (defaultParams.ratio i).num) := by decide
  refine ⟨by decide, by decide, by decide, by decide, by decide, fun i hi => (hratio i hi).1, by decide, ?_⟩
  exact fun i hx1 hi => (hratio i hi).2 hx1

theorem swingTableLegal_default : defaultParams.SwingTableLegal := by
  refine ⟨by decide, by decide, rfl, by decide⟩

/-! ### xorshift32 (42_tick.md R226) -/

/-- A word xored with itself shifted left is 0 only for 0: from the lowest bit on, each bit is the one `k` below it. -/
theorem eq_zero_of_xor_shiftLeft {k : Nat} (hk : 0 < k) {x : Word} (h : x ^^^ x <<< k = 0) : x = 0 := by
  have hx : x = x <<< k := BitVec.xor_eq_zero_iff.mp h
  have hbit (i : Nat) : x.getLsbD i = false := by
    induction i using Nat.strong_induction_on with
    | _ i ih =>
      rw [hx, BitVec.getLsbD_shiftLeft]
      by_cases hi : i < k
      · simp [hi]
      · rw [ih (i - k) (by omega), Bool.and_false]
  exact BitVec.eq_of_getLsbD_eq fun i _ => (hbit i).trans BitVec.getLsbD_zero.symm

/-- A word xored with itself shifted right is 0 only for 0: from the highest bit down, each bit is the one `k` above it. -/
theorem eq_zero_of_xor_shiftRight {k : Nat} (hk : 0 < k) {x : Word} (h : x ^^^ x >>> k = 0) : x = 0 := by
  have hx : x = x >>> k := BitVec.xor_eq_zero_iff.mp h
  have hbit (n i : Nat) (hn : 32 ≤ i + n) : x.getLsbD i = false := by
    induction n generalizing i with
    | zero => exact BitVec.getLsbD_of_ge x i hn
    | succ n ih => rw [hx, BitVec.getLsbD_ushiftRight, ih (k + i) (by omega)]
  exact BitVec.eq_of_getLsbD_eq fun i _ => (hbit 32 i (by omega)).trans BitVec.getLsbD_zero.symm

theorem rngStepLegal_default : defaultParams.RngStepLegal := by
  intro x hx hzero
  exact hx (eq_zero_of_xor_shiftLeft (by decide) (eq_zero_of_xor_shiftRight (by decide)
    (eq_zero_of_xor_shiftLeft (by decide) hzero)))

/-! ### SINE_WARP (43_waveform.md R250) -/

theorem warpReaches_iff (d a m : Nat) : warpReaches d a m = true ↔ (2 * m) ^ 50 * 255 ^ d ≤ 255 ^ 50 * a ^ d :=
  decide_eq_true_iff

/-- What a larger argument's curve is above, and a smaller value is below. -/
theorem warpReaches_mono {d a a' m m' : Nat} (ha : a ≤ a') (hm : m' ≤ m) (h : warpReaches d a m = true) :
    warpReaches d a' m' = true := by
  rw [warpReaches_iff] at h ⊢
  calc
    (2 * m') ^ 50 * 255 ^ d ≤ (2 * m) ^ 50 * 255 ^ d :=
      Nat.mul_le_mul_right _ (Nat.pow_le_pow_left (Nat.mul_le_mul_left 2 hm) 50)
    _ ≤ 255 ^ 50 * a ^ d := h
    _ ≤ 255 ^ 50 * a' ^ d := Nat.mul_le_mul_left _ (Nat.pow_le_pow_left ha d)

/-- `warpFloor` is the greatest number up to its bound that the curve reaches. -/
theorem le_warpFloor_iff {d a m bound : Nat} : m ≤ warpFloor d a bound ↔ m ≤ bound ∧ (m = 0 ∨ warpReaches d a m = true) := by
  induction bound with
  | zero => simp +contextual [warpFloor]
  | succ bound ih =>
    rw [warpFloor]
    split
    case isTrue hreach =>
      exact ⟨fun h => ⟨h, .inr (warpReaches_mono le_rfl h hreach)⟩, And.left⟩
    case isFalse hreach =>
      rw [ih]
      refine ⟨fun ⟨hm, h⟩ => ⟨hm.trans (Nat.le_succ _), h⟩, fun ⟨hm, h⟩ => ⟨?_, h⟩⟩
      have hne : m ≠ bound + 1 := by
        rintro rfl
        exact h.elim (Nat.succ_ne_zero _) hreach
      omega

theorem warpFloor_mono {d a a' : Nat} (h : a ≤ a') (bound : Nat) : warpFloor d a bound ≤ warpFloor d a' bound := by
  obtain ⟨hbound, hreach⟩ := le_warpFloor_iff.mp (le_refl (warpFloor d a bound))
  exact le_warpFloor_iff.mpr ⟨hbound, hreach.imp_right (warpReaches_mono h le_rfl)⟩

/-- The curve never meets a whole number: its argument is odd, and so is the right side. -/
theorem warpExact_of_odd {d a m : Nat} (ha : Odd a) : warpExact d a m = false := by
  refine beq_false_of_ne fun h => ?_
  have heven : Even ((2 * m) ^ 50 * 255 ^ d) := ((even_two_mul m).pow_of_ne_zero (by decide)).mul_right _
  have hodd : Odd (255 ^ 50 * a ^ d) := (Odd.pow (by decide)).mul ha.pow
  exact Nat.not_even_iff_odd.mpr hodd (h ▸ heven)

theorem warpCeil_of_odd {d a : Nat} (ha : Odd a) : warpCeil d a = warpFloor d a 127 + 1 := by
  rw [warpCeil, warpExact_of_odd ha]
  rfl

theorem sineWarpDefault_of_ge {d s : Nat} (h : 128 ≤ s) : sineWarpDefault d s = 128 + warpFloor d (2 * s - 255) 127 := if_pos h

/-- The lower half mirrors the upper one: a sample's mirror image has the same distance from the middle. -/
theorem sineWarpDefault_add_mirror {d s : Nat} (h : s ≤ 255) : sineWarpDefault d s + sineWarpDefault d (255 - s) = 255 := by
  wlog hs : 128 ≤ s generalizing s
  · have hmirror := this (s := 255 - s) (Nat.sub_le ..) (by omega)
    rwa [Nat.sub_sub_self h, Nat.add_comm] at hmirror
  have hodd : Odd (2 * s - 255) := ⟨s - 128, by omega⟩
  have hlow : sineWarpDefault d (255 - s) = 128 - (warpFloor d (2 * s - 255) 127 + 1) := by
    rw [sineWarpDefault, if_neg (by omega), show 255 - 2 * (255 - s) = 2 * s - 255 by omega, warpCeil_of_odd hodd]
  have hfloor := warpFloor_le d (2 * s - 255) 127
  rw [sineWarpDefault_of_ge hs, hlow]
  omega

theorem sineWarpDefault_mono {d s t : Nat} (hst : s ≤ t) (ht : t ≤ 255) : sineWarpDefault d s ≤ sineWarpDefault d t := by
  have hupper {s t : Nat} (hs : 128 ≤ s) (hst : s ≤ t) : sineWarpDefault d s ≤ sineWarpDefault d t := by
    rw [sineWarpDefault_of_ge hs, sineWarpDefault_of_ge (hs.trans hst)]
    exact Nat.add_le_add_left (warpFloor_mono (by omega) 127) 128
  have hs' := sineWarpDefault_add_mirror (d := d) (hst.trans ht)
  rcases Nat.lt_or_ge s 128 with hs | hs
  · rcases Nat.lt_or_ge t 128 with ht' | ht'
    · have ht'' := sineWarpDefault_add_mirror (d := d) ht
      have hle := hupper (s := 255 - t) (t := 255 - s) (by omega) (by omega)
      omega
    · have hlow := sineWarpDefault_of_ge (d := d) (s := 255 - s) (by omega)
      have hhigh := sineWarpDefault_of_ge (d := d) ht'
      omega
  · exact hupper hs hst

/-- At the end of the curve every duty reaches 127. -/
theorem sineWarpDefault_last (d : Nat) : sineWarpDefault d 255 = 255 := by
  have hreach : warpReaches d 255 127 = true := (warpReaches_iff ..).mpr (Nat.mul_le_mul_right _ (by decide))
  have hfloor : 127 ≤ warpFloor d 255 127 := le_warpFloor_iff.mpr ⟨le_rfl, .inr hreach⟩
  have hlast : sineWarpDefault d 255 = 128 + warpFloor d 255 127 := sineWarpDefault_of_ge (by decide)
  rw [hlast, le_antisymm (warpFloor_le ..) hfloor]

theorem sineWarpDefault_first (d : Nat) : sineWarpDefault d 0 = 0 := by
  have hmirror : sineWarpDefault d 255 + sineWarpDefault d 0 = 255 := sineWarpDefault_add_mirror le_rfl
  rw [sineWarpDefault_last] at hmirror
  omega

/-- At duty 50 the curve is the straight line `a / 2`. -/
theorem warpReaches_fifty (a m : Nat) : warpReaches 50 a m = true ↔ 2 * m ≤ a := by
  rw [warpReaches_iff, Nat.mul_comm, Nat.mul_le_mul_left_iff (by positivity), Nat.pow_le_pow_iff_left (by decide)]

theorem sineWarpDefault_fifty {s : Nat} (h : s ≤ 255) : sineWarpDefault 50 s = s := by
  have hupper {s : Nat} (hs : 128 ≤ s) (h : s ≤ 255) : sineWarpDefault 50 s = s := by
    have hfloor (m : Nat) : m ≤ warpFloor 50 (2 * s - 255) 127 ↔ m ≤ s - 128 := by
      rw [le_warpFloor_iff, warpReaches_fifty]
      omega
    have heq : warpFloor 50 (2 * s - 255) 127 = s - 128 := le_antisymm ((hfloor _).mp le_rfl) ((hfloor _).mpr le_rfl)
    rw [sineWarpDefault_of_ge hs, heq]
    omega
  rcases Nat.lt_or_ge s 128 with hs | hs
  · have hmirror := sineWarpDefault_add_mirror (d := 50) h
    rw [hupper (s := 255 - s) (by omega) (Nat.sub_le ..)] at hmirror
    omega
  · exact hupper hs h

theorem sineWarpLegal_default : defaultParams.SineWarpLegal :=
  ⟨fun _ => sineWarpDefault_fifty, fun d _ _ => ⟨sineWarpDefault_first d, sineWarpDefault_last d⟩,
    fun _ _ _ _ _ => sineWarpDefault_mono, fun _ _ _ _ => sineWarpDefault_add_mirror⟩

/-- Settles O14: the tables by evaluation, xorshift32 step by step, SINE_WARP by its symmetry and its order. -/
theorem defaultParamsAreLegal : Obligations.DefaultParamsAreLegal :=
  ⟨divTableLegal_default, swingTableLegal_default, rngStepLegal_default, sineWarpLegal_default⟩

end Sys2Proof.Machine
end

section
/-! PROOFS. The setters (spec/41_setters.md): the parameter registers and the channel each leaves, as functions of what they find
(`parAfter`, `chanAfter`), and what follows from these for every setter at once (R150). -/

namespace Sys2Proof.Machine

/-! ### What a setter leaves -/

/-- The parameter registers setter `i` leaves of `r` outside a master pause (41_setters.md R151 to R166). -/
def parAfter (p : Params) (i : Instr) (r : ParamRegs) : ParamRegs :=
  match i with
  | .setDiv _ d =>
    { r with div := clampReg 4 (sext16 d) (if r.ext then (p.idxX1 : Int) else 0) ((p.nDiv : Int) - 1) }
  | .setDuty _ d => { r with duty := clampReg 7 (sext16 d) 1 99 }
  | .setPhase _ d => { r with phase := clampReg 7 (sext16 d) 0 100 }
  | .setLevel _ d => { r with level := clampReg 7 (sext16 d) 0 100 }
  | .setOffset _ d => { r with offset := clampReg 7 (sext16 d) 0 100 }
  | .setSwingAmt _ d => { r with swingAmt := clampReg 3 (sext16 d) 0 ((p.swingN : Int) - 1) }
  | .setSwingEvery _ d => { r with swingEvery := clampReg 5 (sext16 d) 1 16 }
  | .setProb _ d => { r with prob := clampReg 7 (sext16 d) 0 100 }
  | .setEucEn _ d => { r with eucEn := decide (0 < d.toInt) }
  | .setEucSteps _ d => stepsPar (sext16 d) r
  | .setEucTrig _ d => { r with eucTrig := clampReg 7 (sext16 d) 1 (r.eucSteps.toNat : Int) }
  | .setEucRot _ d => { r with eucRot := clampReg 6 (sext16 d) 0 ((r.eucSteps.toNat : Int) - 1) }
  | .setEucPad _ d => { r with eucPad := clampReg 7 (sext16 d) 0 (64 - (r.eucSteps.toNat : Int)) }
  | .setWave _ d => { r with wave := shapeOfCode (clamp (sext16 d) 0 9).toNat }
  | .setOutEn _ d => { r with outEn := decide (0 < d.toInt) }
  | .setExtclk _ d => { r with ext := decide (0 < d.toInt) }
  | _ => r

/-- The channel setter `i` leaves of `c`: four setters run REGEN when EUC_EN = 1, SET_EUC_EN when it turns EUC_EN on (40_euclid.md
R128), SET_OUT_EN writes the snapshot during a pause (41_setters.md R164), SET_EXTCLK clears the pulse counter when EXT changes
(R166). -/
def chanAfter (p : Params) (paused : Bool) (i : Instr) (c : Channel) : Channel :=
  match i with
  | .setEucSteps _ _ | .setEucTrig _ _ | .setEucRot _ _ | .setEucPad _ _ => c.afterEuc (parAfter p i c.par)
  | .setEucEn _ d =>
    if c.par.eucEn = false ∧ 0 < d.toInt then c.regenerated (parAfter p i c.par) else { c with par := parAfter p i c.par }
  | .setOutEn _ d => if paused then { c with prevEn := decide (0 < d.toInt) } else { c with par := parAfter p i c.par }
  | .setExtclk _ d =>
    { c with
      par := parAfter p i c.par
      extcnt := if decide (0 < d.toInt) = c.par.ext then c.extcnt else 0
      pend := if decide (0 < d.toInt) = c.par.ext then c.pend else false }
  | _ => { c with par := parAfter p i c.par }

/-! ### The three setters of a flag -/

theorem exec_setEucEn (ch : Chan) (d : Half) (s : State) :
    exec (.setEucEn ch d) s = .next (s.afterChan ch (chanAfter defaultParams s.paused (.setEucEn ch d) (s.chan ch))) := by
  rw [exec, execSetEucEn, setter_eq, chanAfter]
  dsimp only [sext16]
  rw [clampFlag_eq]
  by_cases h : (s.chan ch).par.eucEn = false ∧ 0 < d.toInt
  · rw [if_pos h, if_pos (by simpa using h)]; rfl
  · rw [if_neg h, if_neg (by simpa using h)]; rfl

theorem exec_setOutEn (ch : Chan) (d : Half) (s : State) :
    exec (.setOutEn ch d) s = .next (s.afterChan ch (chanAfter defaultParams s.paused (.setOutEn ch d) (s.chan ch))) := by
  rw [exec, execSetOutEn, setter_eq, sext16, clampFlag_eq]
  rfl

theorem exec_setExtclk (ch : Chan) (d : Half) (s : State) :
    exec (.setExtclk ch d) s = .next (s.afterChan ch (chanAfter defaultParams s.paused (.setExtclk ch d) (s.chan ch))) := by
  rw [exec, execSetExtclk, setter_eq, chanAfter]
  dsimp only [sext16]
  rw [clampFlag_eq]
  by_cases h : decide (0 < d.toInt) = (s.chan ch).par.ext
  · rw [if_pos (beq_iff_eq.mpr h), if_pos h, if_pos h]; rfl
  · rw [if_neg (mt beq_iff_eq.mp h), if_neg h, if_neg h]; rfl

/-- Every setter of every build writes its channel and clears `rdata`, nothing else (41_setters.md R150). -/
theorem execWith_setter {i : Instr} {ch : Chan} (h : i.setterChan = some ch) (p : Params) (s : State) :
    execWith p i s = .next (s.afterChan ch (chanAfter p s.paused i (s.chan ch))) := by
  cases i with
  | setEucEn ch' d => cases h; exact exec_setEucEn ch d s
  | setOutEn ch' d => cases h; exact exec_setOutEn ch d s
  | setExtclk ch' d => cases h; exact exec_setExtclk ch d s
  | nop | tick | extPulse | pause | resume | setPpqn | clrGtick | seed | rdOut | rdParam | rdState | rdRhythm | rdGlobal => cases h
  | _ => cases h; rfl

theorem exec_setter {i : Instr} {ch : Chan} (h : i.setterChan = some ch) (s : State) :
    exec i s = .next (s.afterChan ch (chanAfter defaultParams s.paused i (s.chan ch))) :=
  (execWith_default i s).symm.trans (execWith_setter h defaultParams s)

/-! ### The effect of each setter -/

/-- Settles O15: each range lies in its register, which therefore holds the clamped operand. -/
theorem rangeSettersClampTheirRegister : Obligations.RangeSettersClampTheirRegister := by
  intro ch d s
  refine ⟨⟨_, ?_, setterWord_of_formCD (fun _ _ _ => rfl) ch d, exec_setter rfl s⟩,
    ⟨_, ?_, setterWord_of_formCD (fun _ _ _ => rfl) ch d, exec_setter rfl s⟩,
    ⟨_, ?_, setterWord_of_formCD (fun _ _ _ => rfl) ch d, exec_setter rfl s⟩,
    ⟨_, ?_, setterWord_of_formCD (fun _ _ _ => rfl) ch d, exec_setter rfl s⟩,
    ⟨_, ?_, setterWord_of_formCD (fun _ _ _ => rfl) ch d, exec_setter rfl s⟩,
    ⟨_, ?_, setterWord_of_formCD (fun _ _ _ => rfl) ch d, exec_setter rfl s⟩⟩
  all_goals exact toNat_clampReg (sext16 d) (by decide) (by decide) (by decide)

/-- Settles O16: the default tables have 15 and 7 entries, and 1/1 stands at index 8. -/
theorem tableSettersClampTheirIndex : Obligations.TableSettersClampTheirIndex := by
  intro ch d s
  refine ⟨⟨_, ?_, setterWord_of_formCD (fun _ _ _ => rfl) ch d, exec_setter rfl s⟩,
    ⟨_, ?_, setterWord_of_formCD (fun _ _ _ => rfl) ch d, exec_setter rfl s⟩⟩
  · cases (s.chan ch).par.ext <;> exact toNat_clampReg (sext16 d) (by decide) (by decide) (by decide)
  · exact toNat_clampReg (sext16 d) (by decide) (by decide) (by decide)

/-- The codes up to 9 name the ten shapes (43_waveform.md R240). -/
theorem code_shapeOfCode {n : Nat} (h : n ≤ 9) : (shapeOfCode n).code = n := by
  interval_cases n <;> rfl

/-- Settles O17: the clamped operand is one of the ten codes. -/
theorem setWaveSelectsTheClampedShape : Obligations.SetWaveSelectsTheClampedShape := by
  intro ch d s
  refine ⟨_, ?_, setterWord_of_formCD (fun _ _ _ => rfl) ch d, exec_setter rfl s⟩
  have hbounds : 0 ≤ clamp (sext16 d) 0 9 ∧ clamp (sext16 d) 0 9 ≤ 9 := by
    unfold clamp; omega
  rw [code_shapeOfCode (by omega), Int.toNat_of_nonneg hbounds.1]
  rfl

/-- Settles O18: `chanAfter` tests PAUSED as the statement does. -/
theorem setOutEnGoesToSnapshotWhilePaused : Obligations.SetOutEnGoesToSnapshotWhilePaused := by
  intro ch d s
  refine ⟨setterWord_of_formCD (fun _ _ _ => rfl) ch d, (exec_setter rfl s).trans ?_⟩
  rw [chanAfter]
  split <;> rfl

/-- Settles O19: `chanAfter` keeps the counter and the mark exactly when the flag written is the one held. -/
theorem setExtclkClearsCounterOnChange : Obligations.SetExtclkClearsCounterOnChange :=
  fun ch d s => ⟨setterWord_of_formCD (fun _ _ _ => rfl) ch d, exec_setter rfl s⟩

/-- Settles O20: `chanAfter` runs REGEN exactly when the flag goes from 0 to 1. -/
theorem setEucEnRegeneratesOnlyOnEnable : Obligations.SetEucEnRegeneratesOnlyOnEnable := by
  intro ch d s
  refine ⟨setterWord_of_formCD (fun _ _ _ => rfl) ch d, (exec_setter rfl s).trans ?_⟩
  rw [chanAfter]
  split
  case isTrue h => simp only [parAfter, h.2, decide_true]
  case isFalse => rfl

/-! ### What every setter keeps (41_setters.md R150) -/

@[simp] theorem afterEuc_par (c : Channel) (r : ParamRegs) : (c.afterEuc r).par = r := by
  unfold Channel.afterEuc; split <;> rfl

/-- A setter writes no identity, no render state and no latch. -/
theorem chanAfter_frame (p : Params) (paused : Bool) (i : Instr) (c : Channel) :
    ∃ par prevEn rhythm cursor pend extcnt, chanAfter p paused i c =
      { c with par := par, prevEn := prevEn, rhythm := rhythm, cursor := cursor, pend := pend, extcnt := extcnt } := by
  unfold chanAfter Channel.afterEuc
  split
  case h_1 | h_2 | h_3 | h_4 | h_5 | h_6 => split <;> exact ⟨_, _, _, _, _, _, rfl⟩
  all_goals exact ⟨_, _, _, _, _, _, rfl⟩

/-- Outside a pause a setter leaves the registers `parAfter` names, and so does every setter but SET_OUT_EN during one. -/
theorem chanAfter_par (p : Params) (paused : Bool) (i : Instr) (c : Channel) :
    (chanAfter p paused i c).par = if i.isSetOutEn && paused then c.par else parAfter p i c.par := by
  cases i with
  | setOutEn ch d => cases paused <;> rfl
  | setEucSteps | setEucTrig | setEucRot | setEucPad => exact afterEuc_par ..
  | setEucEn ch d =>
    rw [chanAfter]
    split <;> rfl
  | _ => rfl

/-- A clamped register stays below any bound of its range. -/
theorem toNat_clampReg_le {w m : Nat} {lo hi : Int} (v : Int) (h : 0 ≤ lo ∧ lo ≤ hi ∧ hi < 2 ^ w ∧ hi ≤ m) :
    (clampReg w v lo hi).toNat ≤ m := by
  obtain ⟨hlo, hle, hw, hm⟩ := h
  have hx := toNat_clampReg v hlo hle hw
  omega

theorem le_toNat_clampReg {w m : Nat} {lo hi : Int} (v : Int) (h : 0 ≤ lo ∧ lo ≤ hi ∧ hi < 2 ^ w ∧ m ≤ lo) :
    m ≤ (clampReg w v lo hi).toNat := by
  obtain ⟨hlo, hle, hw, hm⟩ := h
  have hx := toNat_clampReg v hlo hle hw
  omega

/-- The fields that SET_EUC_STEPS lowers fit the new number of steps (41_setters.md R159). -/
theorem stepsPar_legal {p : Params} {r : ParamRegs} (h : r.Legal p) (v : Int) : (stepsPar v r).Legal p := by
  have hlo : 1 ≤ (clampReg 7 v 1 64).toNat := le_toNat_clampReg v (by decide)
  have hhi : (clampReg 7 v 1 64).toNat ≤ 64 := toNat_clampReg_le v (by decide)
  have htrig := toNat_ofNat_min r.eucTrig (clampReg 7 v 1 64).toNat
  have hrot := toNat_ofNat_min r.eucRot ((clampReg 7 v 1 64).toNat - 1)
  have hpad := toNat_ofNat_min r.eucPad (64 - (clampReg 7 v 1 64).toNat)
  have hpos := h.trig_pos
  refine { h with steps_pos := hlo, steps_le := hhi, trig_pos := ?_, trig_le := ?_, rot_le := ?_, len_le := ?_ } <;>
    dsimp only [stepsPar] <;> omega

/-- Each setter clamps into the legal range of its register (10_state.md R39, R40). -/
theorem parAfter_legal {p : Params} (hp : p.Legal) (i : Instr) {r : ParamRegs} (h : r.Legal p) : (parAfter p i r).Legal p := by
  obtain ⟨-, hnDiv, -, -, hidx, -⟩ := hp.div
  obtain ⟨hswing, hswingN, -⟩ := hp.swing
  have hsteps := h.steps_pos
  have hlen := h.len_le
  cases i with
  | setDiv ch d =>
    have hx : (parAfter p (.setDiv ch d) r).div.toNat ≤ p.nDiv - 1 := toNat_clampReg_le _ (by split <;> omega)
    exact { h with div := by omega }
  | setSwingAmt ch d =>
    have hx : (parAfter p (.setSwingAmt ch d) r).swingAmt.toNat ≤ p.swingN - 1 := toNat_clampReg_le _ (by omega)
    exact { h with swingAmt := by omega }
  | setDuty ch d =>
    exact { h with duty_pos := le_toNat_clampReg _ (by decide), duty_le := toNat_clampReg_le _ (by decide) }
  | setPhase ch d => exact { h with phase_le := toNat_clampReg_le _ (by decide) }
  | setLevel ch d => exact { h with level_le := toNat_clampReg_le _ (by decide) }
  | setOffset ch d => exact { h with offset_le := toNat_clampReg_le _ (by decide) }
  | setProb ch d => exact { h with prob_le := toNat_clampReg_le _ (by decide) }
  | setSwingEvery ch d =>
    exact { h with every_pos := le_toNat_clampReg _ (by decide), every_le := toNat_clampReg_le _ (by decide) }
  | setEucSteps ch d => exact stepsPar_legal h _
  | setEucTrig ch d =>
    exact { h with trig_pos := le_toNat_clampReg _ (by omega), trig_le := toNat_clampReg_le (m := r.eucSteps.toNat) _ (by omega) }
  | setEucRot ch d => exact { h with rot_le := toNat_clampReg_le (m := r.eucSteps.toNat - 1) _ (by omega) }
  | setEucPad ch d =>
    have hx := toNat_clampReg_le (w := 7) (hi := 64 - (r.eucSteps.toNat : Int)) (m := 64 - r.eucSteps.toNat) (sext16 d)
      (lo := 0) (by omega)
    exact { h with len_le := Nat.add_le_of_le_sub' h.steps_le hx }
  | _ => exact { h with }

/-- A second clamp of the same operand changes nothing. -/
theorem parAfter_parAfter (p : Params) (i : Instr) (r : ParamRegs) : parAfter p i (parAfter p i r) = parAfter p i r := by
  cases i with
  | setEucSteps ch d => simp only [parAfter, stepsPar, toNat_ofNat_min, min_assoc, min_self]
  | _ => rfl

/-- A second REGEN with the same parameters finds the pattern written and the cursor in range. -/
theorem afterEuc_afterEuc (c : Channel) (r : ParamRegs) : (c.afterEuc r).afterEuc r = c.afterEuc r := by
  unfold Channel.afterEuc
  split
  · simp only [Channel.regenerated]
    split
    · simp
    · rfl
  · rfl

/-- A second run of a setter finds its registers clamped, its flag unchanged and REGEN done (41_setters.md R150). -/
theorem chanAfter_chanAfter (p : Params) (paused : Bool) (i : Instr) (c : Channel) :
    chanAfter p paused i (chanAfter p paused i c) = chanAfter p paused i c := by
  cases i with
  | setEucSteps | setEucTrig | setEucRot | setEucPad =>
    simp only [chanAfter, afterEuc_par, parAfter_parAfter, afterEuc_afterEuc]
  | setEucEn ch d =>
    have hpar : (chanAfter p paused (.setEucEn ch d) c).par = parAfter p (.setEucEn ch d) c.par := chanAfter_par ..
    generalize chanAfter p paused (.setEucEn ch d) c = c' at hpar
    have hnot : ¬ (c'.par.eucEn = false ∧ 0 < d.toInt) := by
      rw [hpar]
      exact fun ⟨hoff, hd⟩ => of_decide_eq_false hoff hd
    rw [chanAfter, if_neg hnot, hpar]
    exact congrArg (fun r => { c' with par := r }) ((parAfter_parAfter ..).trans hpar.symm)
  | setOutEn ch d => cases paused <;> rfl
  | setExtclk ch d => simp [chanAfter, parAfter]
  | _ => simp only [chanAfter, parAfter_parAfter]

@[simp] theorem afterChan_afterChan (s : State) (ch : Chan) (c c' : Channel) :
    (s.afterChan ch c).afterChan ch c' = s.afterChan ch c' := by
  simp [State.afterChan]

/-- Settles O23: every setter is `chanAfter` on its own channel, which keeps the frame and the legal ranges and is idempotent. -/
theorem everySetterIsClampedLocalAndIdempotent : Obligations.EverySetterIsClampedLocalAndIdempotent := by
  intro i ch s t hi ht
  rw [exec_setter hi] at ht
  cases ht
  obtain ⟨par, prevEn, rhythm, cursor, pend, extcnt, hframe⟩ := chanAfter_frame defaultParams s.paused i (s.chan ch)
  have hpar := chanAfter_par defaultParams s.paused i (s.chan ch)
  refine ⟨rfl, fun c hc => State.chan_afterChan_ne _ _ hc, ?_⟩
  rw [exec_setter hi, State.chan_afterChan_same, State.afterChan_paused, afterChan_afterChan, chanAfter_chanAfter]
  refine ⟨?_, ?_, ?_, ?_, ?_, fun hlegal => ?_, rfl⟩
  case refine_6 =>
    rw [hpar]
    split
    · exact hlegal
    · exact parAfter_legal defaultParamsAreLegal i hlegal
  all_goals rw [hframe]

end Sys2Proof.Machine
end

section
/-! PROOFS. What a channel step writes beyond the sub-state (spec/42_tick.md R208 to R211, R219, R228; 43_waveform.md R262): the
cursor, the generator, SH_HOLD, and nothing else of the channel. -/

namespace Sys2Proof.Machine

/-! ### The frame of a channel step -/

section
variable (p : Params) (g q : Nat) (c : Channel) (rng : Word)

/-- An enabled step writes the cursor, the render state, PEND and the latches of its channel (42_tick.md R219). -/
theorem enabledStep_frame :
    ∃ cursor render gateOut levelOut, (enabledStep p g q c rng).chan =
      { c with cursor := cursor, render := render, pend := false, gateOut := gateOut, levelOut := levelOut } := by
  obtain ⟨cursor, render, h⟩ := startStep_chan p (c.starts p g q) (countTick c) rng
  refine ⟨cursor, (enabledStep p g q c rng).chan.render, (enabledStep p g q c rng).chan.gateOut,
    (enabledStep p g q c rng).chan.levelOut, ?_⟩
  rw [enabledStep, h]
  rfl

theorem channelStep_frame :
    ∃ cursor render pend gateOut levelOut, (channelStep p g q c rng).chan =
      { c with cursor := cursor, render := render, pend := pend, gateOut := gateOut, levelOut := levelOut } := by
  obtain ⟨-, h⟩ | ⟨-, -, h⟩ | ⟨-, -, h⟩ := channelStep_cases p g q c rng
  · exact ⟨_, _, _, _, _, congrArg ChanStep.chan h⟩
  · exact ⟨_, _, _, _, _, congrArg ChanStep.chan h⟩
  · obtain ⟨cursor, render, gateOut, levelOut, hframe⟩ := enabledStep_frame p g q c rng
    exact ⟨cursor, render, false, gateOut, levelOut, (congrArg ChanStep.chan h).trans hframe⟩

/-! ### The cursor (42_tick.md R210) -/

theorem afterFire_cursor : (afterFire p c rng).chan.cursor = if c.par.eucEn then advanceCursor c else c.cursor := by
  unfold afterFire; split <;> rfl

theorem startStep_cursor (starts : Bool) :
    (startStep p starts c rng).chan.cursor = if starts && c.par.eucEn then advanceCursor c else c.cursor := by
  obtain ⟨rfl, h⟩ | ⟨rfl, -, h⟩ | ⟨rfl, -, h⟩ := startStep_cases p starts c rng
  · rw [h]; rfl
  · obtain ⟨hold, hfire, -⟩ := fireStart_spec p (afterFire p c rng)
    rw [h, hfire]
    exact afterFire_cursor ..
  · rw [h]
    exact afterFire_cursor ..

/-- The cursor moves at a start in Euclidean mode and never otherwise. -/
theorem enabledStep_cursor :
    (enabledStep p g q c rng).chan.cursor = if c.starts p g q && c.par.eucEn then advanceCursor c else c.cursor :=
  startStep_cursor p (countTick c) rng (c.starts p g q)

theorem channelStep_cursor_of_not_euclidean (h : c.par.eucEn = false) : (channelStep p g q c rng).chan.cursor = c.cursor := by
  obtain ⟨-, hstep⟩ | ⟨-, -, hstep⟩ | ⟨-, -, hstep⟩ := channelStep_cases p g q c rng
  · rw [hstep]; rfl
  · rw [hstep]
  · rw [hstep]
    exact (enabledStep_cursor ..).trans (by simp [h])

/-! ### The draws (42_tick.md R227, R228) -/

theorem afterFire_rng : (afterFire p c rng).rng = p.rngStep^[if !c.par.eucEn then 1 else 0] rng := by
  unfold afterFire
  cases c.par.eucEn <;> rfl

/-- A start draws for the probability gate, and once more for SAMPLE_HOLD when it fires. -/
theorem startStep_rng (starts : Bool) :
    (startStep p starts c rng).rng =
      p.rngStep^[(if starts && !c.par.eucEn then 1 else 0) +
        (if starts && fires p c rng && c.par.wave == .sampleHold then 1 else 0)] rng := by
  obtain ⟨rfl, h⟩ | ⟨rfl, hf, h⟩ | ⟨rfl, hf, h⟩ := startStep_cases p starts c rng
  · rw [h]; rfl
  · obtain ⟨hold, -, hother, hsampleHold⟩ := fireStart_spec p (afterFire p c rng)
    rw [h, hf]
    by_cases hw : c.par.wave = .sampleHold
    · rw [(hsampleHold ((congrArg _ (afterFire_par ..)).trans hw)).2, afterFire_rng, ← Function.iterate_succ_apply' p.rngStep]
      simp [hw]
    · rw [(hother (by rwa [afterFire_par])).2, afterFire_rng]
      simp [hw]
  · rw [h, hf]
    exact afterFire_rng ..

theorem renderShape_rng (e period d : Nat) :
    (renderShape p c e period d rng).rng =
      p.rngStep^[if c.par.wave == .random || c.par.wave == .smoothRandom then 1 else 0] rng := by
  rw [renderShape]
  cases c.par.wave <;> rfl

/-- The renderer draws for RANDOM and SMOOTH_RANDOM when the final sub-state is not IDLE. -/
theorem render_rng (e period d : Nat) :
    (render p c e period d rng).rng =
      p.rngStep^[if (c.par.wave == .random || c.par.wave == .smoothRandom) && !(c.render.wstate == .idle) then 1 else 0] rng := by
  by_cases h : c.render.wstate = .idle
  · rw [render_idle _ _ _ _ _ _ h]
    simp [h, plainRender]
  · rw [render_live _ _ _ _ _ _ h, renderShape_rng]
    simp [h]

/-- The generator advances once per draw of the step (42_tick.md R228). -/
theorem enabledStep_rng_eq_iterate :
    (enabledStep p g q c rng).rng =
      p.rngStep^[drawCount (c.starts p g q) c.par.eucEn (fires p c rng) c.par.wave
        (enabledStep p g q c rng).chan.render.wstate] rng := by
  rw [enabledStep_rng, stepRendered, render_rng, beforeRender_par, beforeRender_wstate, drawCount, Nat.add_comm,
    Function.iterate_add_apply]
  exact congrArg _ (startStep_rng p (countTick c) rng (c.starts p g q))

theorem iterate_rngStep_ne_zero {p : Params} (hp : p.RngStepLegal) {rng : Word} (h : rng ≠ 0) (n : Nat) :
    p.rngStep^[n] rng ≠ 0 := by
  induction n with
  | zero => exact h
  | succ n ih =>
    rw [Function.iterate_succ_apply']
    exact hp _ ih

/-! ### SH_HOLD (43_waveform.md R262) -/

theorem startStep_shHold (starts : Bool) :
    (startStep p starts c rng).chan.render.shHold =
      if starts && fires p c rng && c.par.wave == .sampleHold then drawByte (startStep p starts c rng).rng
      else c.render.shHold := by
  obtain ⟨rfl, h⟩ | ⟨rfl, hf, h⟩ | ⟨rfl, hf, h⟩ := startStep_cases p starts c rng
  · rw [h]; rfl
  · obtain ⟨hold, hfire, hother, hsampleHold⟩ := fireStart_spec p (afterFire p c rng)
    rw [h, hfire, hf]
    by_cases hw : c.par.wave = .sampleHold
    · obtain ⟨hhold, hrng⟩ := hsampleHold (by rwa [afterFire_par])
      simp [hw, hhold, hrng]
    · obtain ⟨hhold, -⟩ := hother (by rwa [afterFire_par])
      simp [hw, hhold]
  · rw [h, hf]
    simp [silentStart]

theorem enabledStep_shHold :
    (enabledStep p g q c rng).chan.render.shHold =
      if c.starts p g q && fires p c rng && c.par.wave == .sampleHold then
        drawByte (startStep p (c.starts p g q) (countTick c) rng).rng
      else c.render.shHold :=
  startStep_shHold p (countTick c) rng (c.starts p g q)

end

/-! ### The gate at a start (42_tick.md R211, R213 to R216) -/

/-- At a start the cutoff stops a shape that has one exactly when `D = 0`. -/
theorem cutoff_active_at_start (cls : ShapeClass) (d : Nat) :
    cutoff cls .active 0 d ≠ .idle ↔ 1 ≤ d ∨ cls = .continuous := by
  cases cls with
  | gateLike =>
    rw [cutoff_gateLike]
    split <;> simp <;> omega
  | envelope =>
    rw [cutoff_envelope (w := .active) nofun]
    split <;> simp <;> omega
  | continuous => simp [cutoff_continuous]

section
variable {p : Params} {g q : Nat} {c : Channel} {rng : Word}

theorem enabledStep_gateOut_iff :
    (enabledStep p g q c rng).chan.gateOut = true ↔ (enabledStep p g q c rng).chan.render.wstate ≠ .idle := by
  simp [enabledStep_gateOut]

/-- The gate rises at a start that fires, unless the shape is cut off at once. -/
theorem enabledStep_gateOut_of_start (hs : c.starts p g q = true) :
    (enabledStep p g q c rng).chan.gateOut = true ↔
      fires p c rng = true ∧ (1 ≤ c.pulse p q ∨ c.par.wave.cls = .continuous) := by
  rw [enabledStep_gateOut_iff, enabledStep_wstate, enabledStep_elapsed, if_pos hs, if_pos hs]
  cases fires p c rng with
  | false => simp [cutoff_idle]
  | true => simpa using cutoff_active_at_start c.par.wave.cls (c.pulse p q)

end

/-! ### The obligations -/

/-- Settles O37: TICK's channel steps have the frame of `channelStep_frame`, and each its own channel alone. -/
theorem tickKeepsParametersAndIdentity : Obligations.TickKeepsParametersAndIdentity := by
  refine fun s => ⟨_, exec_tick s, rfl, rfl, rfl, rfl, rfl, BitVec.toNat_add .., fun ch => ?_⟩
  have hcursor := channelStep_cursor_of_not_euclidean defaultParams s.gtick.toNat s.ppqn.toNat (s.chan ch)
    (tickRng defaultParams s ch.val)
  obtain ⟨cursor, render, pend, gateOut, levelOut, hframe⟩ :=
    channelStep_frame defaultParams s.gtick.toNat s.ppqn.toNat (s.chan ch) (tickRng defaultParams s ch.val)
  rw [chan_afterTick, tickStep]
  rw [hframe] at hcursor ⊢
  exact ⟨rfl, rfl, rfl, rfl, rfl, rfl, hcursor⟩

/-- A displacement below the period is the remainder at which a cycle starts. -/
theorem sub_emod_eq_zero_iff {g period x : Nat} (hx : x < period) :
    ((g : Int) - (x : Int)) % (period : Int) = 0 ↔ g % period = x := by
  have hself : (x : Int) % (period : Int) = x := Int.emod_eq_of_lt (by omega) (by omega)
  rw [← Int.emod_eq_emod_iff_emod_sub_eq_zero, hself]
  exact_mod_cast Iff.rfl

/-- Settles O41: the displacement stays below the period, so it is the one remainder that passes the test. -/
theorem swungCyclesStartLater : Obligations.SwungCyclesStartLater := by
  intro g period off s every h
  have hx : displacement g period off s every = off + (if (g / period) % every = 0 then s else 0) := by
    unfold displacement; split <;> rfl
  rw [startTest_iff, hx, sub_emod_eq_zero_iff (by split <;> omega)]

theorem satInc_ne_zero (e : Word) : satInc e ≠ 0 := by
  intro h
  have hzero := congrArg BitVec.toNat h
  rw [toNat_satInc] at hzero
  simp at hzero

/-- ELAPSED is 0 after an enabled step exactly when a cycle started. -/
theorem enabledStep_elapsed_eq_zero_iff (p : Params) (g q : Nat) (c : Channel) (rng : Word) :
    (enabledStep p g q c rng).chan.render.elapsed = 0 ↔ c.starts p g q = true := by
  rw [enabledStep_elapsed]
  split
  case isTrue h => exact iff_of_true rfl h
  case isFalse h => exact iff_of_false (satInc_ne_zero _) h

/-- Within 64 steps the cursor's next value fits its register (10_state.md R43). -/
theorem toNat_advanceCursor {c : Channel} (h : c.par.seqLen ≤ 64) :
    (advanceCursor c).toNat = if c.par.seqLen ≤ c.cursor.toNat + 1 then 0 else c.cursor.toNat + 1 := by
  unfold advanceCursor
  split
  · rfl
  · rw [BitVec.toNat_ofNat, Nat.mod_eq_of_lt (by omega)]

/-- Settles O42: ELAPSED tells whether the cycle started, which is when the cursor moves and the step under it is read. -/
theorem euclideanStartConsultsRhythm : Obligations.EuclideanStartConsultsRhythm := by
  intro s ch c hen heuc hperiod hlen
  refine ⟨_, exec_tick s, ?_⟩
  rw [chan_afterTick, tickStep, channelStep_of_enabled hen hperiod]
  dsimp only
  rw [Ne, enabledStep_elapsed_eq_zero_iff, enabledStep_cursor]
  refine ⟨fun hs => ?_, fun hs => ⟨?_, ?_⟩⟩
  · rw [Bool.eq_false_of_not_eq_true hs]; rfl
  · rw [hs, heuc]
    exact toNat_advanceCursor hlen
  · rw [enabledStep_gateOut_of_start hs, fires_iff, if_pos heuc]

/-- Settles O43: outside Euclidean mode a start fires when its draw is below PROB, and the draw lies in `0..99`. -/
theorem probabilityGateFiresBelowProb : Obligations.ProbabilityGateFiresBelowProb := by
  intro g q c rng hen heuc hperiod hs x live
  have hx : x.chan = (enabledStep defaultParams g q c rng).chan := congrArg ChanStep.chan (channelStep_of_enabled hen hperiod g rng)
  have hgate : x.chan.gateOut = true ↔ (xorshift32 rng).toNat * 100 / 2 ^ 32 < c.par.prob.toNat ∧ live := by
    rw [hx, enabledStep_gateOut_of_start hs, fires_iff, heuc]
    exact Iff.rfl
  refine ⟨?_, ?_, hgate, fun hprob => ?_, fun hprob => ?_⟩
  · rw [hx, enabledStep_cursor, heuc, Bool.and_false]; rfl
  · rw [hx, enabledStep_elapsed_eq_zero_iff, hs]
  · have hdraw : (xorshift32 rng).toNat * 100 / 2 ^ 32 < 100 := draw100_lt (xorshift32 rng)
    rw [hgate, hprob]
    exact and_iff_right hdraw
  · have hlow : ¬ x.chan.gateOut = true := by
      rw [hgate, hprob]
      exact fun h => absurd h.1 (Nat.not_lt_zero _)
    refine ⟨Bool.eq_false_of_not_eq_true hlow, ?_⟩
    rw [hx, enabledStep_gateOut_iff, not_not] at hlow
    rw [hx, hlow]

/-- Settles O45: the enabled step draws as `drawCount` says, the other two paths of a channel step keep the generator. -/
theorem channelStepDrawsAsCounted : Obligations.ChannelStepDrawsAsCounted := by
  intro g q c rng x fire
  obtain ⟨hoff, h⟩ | ⟨-, hzero, h⟩ | ⟨hen, hperiod, h⟩ := channelStep_cases defaultParams g q c rng
  · rw [if_neg (by simp [hoff])]
    simp only [x, h]
  · rw [if_neg (by simp [hzero])]
    simp only [x, h]
  · rw [if_pos ⟨hen, Nat.one_le_iff_ne_zero.mpr hperiod⟩]
    simp only [x, h]
    exact enabledStep_rng_eq_iterate ..

/-- Settles O48: only a firing start of SAMPLE_HOLD draws SH_HOLD, and its renderer then draws no more and shows it. -/
theorem sampleHoldDrawsAtFiringStarts : Obligations.SampleHoldDrawsAtFiringStarts := by
  intro g q c rng hen hperiod
  rw [channelStep_of_enabled hen hperiod]
  intro x fire
  have hfire : fires defaultParams c rng = true ↔ fire := fires_iff c rng
  have hdrawn : (c.starts defaultParams g q && fires defaultParams c rng && c.par.wave == .sampleHold) = true ↔
      c.starts defaultParams g q = true ∧ fire ∧ c.par.wave = .sampleHold := by
    simp [hfire, and_assoc]
  have hhold := enabledStep_shHold defaultParams g q c rng
  refine ⟨fun h => ?_, fun h => hhold.trans (if_neg (mt hdrawn.mp h))⟩
  obtain ⟨hs, hf, hw⟩ := h
  have hpar := beforeRender_par defaultParams g q c rng
  have hlive : (enabledStep defaultParams g q c rng).chan.render.wstate ≠ .idle := by
    rw [← enabledStep_gateOut_iff, enabledStep_gateOut_of_start hs, hfire, hw]
    exact ⟨hf, .inr rfl⟩
  have hrng : x.rng = (startStep defaultParams (c.starts defaultParams g q) (countTick c) rng).rng := by
    simp only [x]
    rw [enabledStep_rng, stepRendered, render_rng, hpar, hw]
    rfl
  refine ⟨?_, ?_⟩
  · rw [← toNat_drawByte, hrng]
    exact congrArg BitVec.toNat (hhold.trans (if_pos (hdrawn.mpr ⟨hs, hf, hw⟩)))
  · simp only [x]
    rw [enabledStep_sample, stepRendered_of_live hlive, ← beforeRender_shHold]
    exact (renderShape_sampleHold (by rw [hpar, hw])).1

end Sys2Proof.Machine
end

section
/-! PROOFS. The machine invariant `State.Inv` (spec/10_state.md R34 to R53, 40_euclid.md R128): it holds after reset, and every
channel step, every setter and every other command keeps it, in every legal build. -/

namespace Sys2Proof.Machine

/-! ### After reset -/

theorem parReset_legal {p : Params} (hp : p.Legal) : (ParamRegs.reset p).Legal p := by
  obtain ⟨-, hnDiv, -, -, hidx, -⟩ := hp.div
  obtain ⟨hswing, -⟩ := hp.swing
  have hdiv : (ParamRegs.reset p).div.toNat = p.idxX1 := (BitVec.toNat_ofNat ..).trans (Nat.mod_eq_of_lt (by omega))
  constructor
  case div => exact hdiv ▸ hidx
  case swingAmt => exact hswing
  all_goals simp [ParamRegs.reset]

theorem channelReset_inv {p : Params} (hp : p.Legal) {ch : Chan} {chId : BitVec 2} {kind : Kind} (hid : chId.toNat = ch.val)
    (hkind : kind = p.chKind ch) : (Channel.reset p chId kind).Inv p ch false where
  chId := hid
  kind := hkind
  par := parReset_legal hp
  pausedOff := nofun
  cursor := nofun
  rhythm := nofun
  srFilt := by simp [Channel.reset, RenderState.reset]
  gate := iff_of_false nofun (not_not_intro rfl)
  idleSample := fun _ => ⟨rfl, rfl⟩
  digital := fun _ => rfl

theorem resetWith_inv {p : Params} (hp : p.Legal) : (State.resetWith p).Inv p where
  ppqn_pos := by simp [State.resetWith]
  ppqn_le := by simp [State.resetWith]
  rng := by simp [State.resetWith]
  chan ch := by
    rw [chan_resetWith]
    exact channelReset_inv hp (Nat.mod_eq_of_lt ch.isLt) rfl

/-- Settles O11: the reset channel of every legal build meets the channel invariant. -/
theorem resetKeepsTheMachineInvariant : Obligations.ResetKeepsTheMachineInvariant :=
  ⟨resetWith_inv defaultParamsAreLegal, fun _ => resetWith_inv⟩

/-- A reset step keeps the identity, which the invariant says is the hardwired one. -/
theorem applyReset_inv {p : Params} (hp : p.Legal) {s : State} (h : s.Inv p) : (applyReset p s).Inv p where
  ppqn_pos := by simp [applyReset, State.resetWith]
  ppqn_le := by simp [applyReset, State.resetWith]
  rng := by simp [applyReset, State.resetWith]
  chan ch := by
    rw [chan_applyReset]
    exact channelReset_inv hp (h.chan ch).chId (h.chan ch).kind

/-! ### A setter -/

/-- While EUC_EN = 1 RHYTHM is the pattern of the parameters and the cursor is in range (10_state.md R43, 40_euclid.md R128). -/
def EucInSync (c : Channel) : Prop := c.par.eucEn = true → c.rhythm = c.par.pattern ∧ c.cursor.toNat < c.par.seqLen

theorem regenerated_inSync (c : Channel) {r : ParamRegs} (hlen : 0 < r.seqLen) : EucInSync (c.regenerated r) := by
  refine fun _ => ⟨rfl, ?_⟩
  change (if r.seqLen ≤ c.cursor.toNat then (0 : BitVec 6) else c.cursor).toNat < r.seqLen
  split
  · exact hlen
  · omega

theorem afterEuc_inSync (c : Channel) {r : ParamRegs} (hlen : 0 < r.seqLen) : EucInSync (c.afterEuc r) := by
  unfold Channel.afterEuc
  split
  case isTrue => exact regenerated_inSync c hlen
  case isFalse h => exact fun hen => absurd hen h

/-- A setter of a Euclidean parameter runs REGEN when EUC_EN = 1, so does the one that turns it on, and the others write none of
what the pattern depends on (40_euclid.md R128). -/
theorem chanAfter_inSync {p : Params} {paused : Bool} {i : Instr} {c : Channel} (h : EucInSync c)
    (hlen : 0 < (parAfter p i c.par).seqLen) : EucInSync (chanAfter p paused i c) := by
  cases i with
  | setEucSteps | setEucTrig | setEucRot | setEucPad => exact afterEuc_inSync c hlen
  | setEucEn ch d =>
    rw [chanAfter]
    split
    case isTrue => exact regenerated_inSync c hlen
    case isFalse hno =>
      intro hen
      have hd : 0 < d.toInt := of_decide_eq_true hen
      exact h (Bool.eq_true_of_not_eq_false fun hoff => hno ⟨hoff, hd⟩)
  | setOutEn ch d => cases paused <;> exact h
  | _ => exact h

theorem chanAfter_inv {p : Params} (hp : p.Legal) {ch : Chan} {paused : Bool} {c : Channel} (h : c.Inv p ch paused) (i : Instr) :
    (chanAfter p paused i c).Inv p ch paused := by
  have hlegal := parAfter_legal hp i h.par
  have hsync : EucInSync (chanAfter p paused i c) :=
    chanAfter_inSync (fun hen => ⟨h.rhythm hen, h.cursor hen⟩) (Nat.add_pos_left hlegal.steps_pos _)
  have hpar := chanAfter_par p paused i c
  have hpausedOff : paused = true → (chanAfter p paused i c).par.outEn = false := by
    rintro rfl
    rw [hpar]
    cases i <;> exact h.pausedOff rfl
  have hparLegal : (chanAfter p paused i c).par.Legal p := by
    rw [hpar]
    split
    · exact h.par
    · exact hlegal
  obtain ⟨par, prevEn, rhythm, cursor, pend, extcnt, hframe⟩ := chanAfter_frame p paused i c
  rw [hframe] at hsync hpausedOff hparLegal ⊢
  exact { h with
    par := hparLegal, pausedOff := hpausedOff, cursor := fun hen => (hsync hen).2, rhythm := fun hen => (hsync hen).1 }

/-! ### A channel step -/

/-- A fraction of a distance, rounded down, never passes the target. -/
theorem ediv_between {x m : Int} (hm : 0 < m) : min 0 x ≤ x / m ∧ x / m ≤ max 0 x := by
  rcases le_total 0 x with hx | hx
  · rw [min_eq_left hx, max_eq_right hx]
    exact ⟨Int.ediv_nonneg hx hm.le, Int.ediv_le_self m hx⟩
  · rw [min_eq_right hx, max_eq_left hx]
    exact ⟨Int.le_ediv_of_mul_le hm (by nlinarith), Int.ediv_nonpos_of_nonpos_of_neg hx hm⟩

/-- Whatever the build's `SR_K`, the filter stays in its range (10_state.md R49). -/
theorem toNat_smoothFilt_le (p : Params) {filt : Half} (hfilt : filt.toNat ≤ 0xFF00) (walk : Byte) :
    (smoothFilt p filt walk).toNat ≤ 0xFF00 := by
  have hwalk := walk.isLt
  have hpos : (0 : Int) < ((2 ^ p.srK : Nat) : Int) := by positivity
  have hstep := ediv_between (x := ((walk.toNat * 256 : Nat) : Int) - (filt.toNat : Int)) hpos
  rw [smoothFilt, BitVec.toNat_ofInt]
  omega

/-- Only SMOOTH_RANDOM writes the filter (43_waveform.md R242, R261). -/
theorem renderShape_srFilt {p : Params} {c : Channel} {e period d : Nat} {rng : Word} (hw : c.par.wave ≠ .smoothRandom) :
    (renderShape p c e period d rng).srFilt = c.render.srFilt := by
  rw [renderShape]
  cases h : c.par.wave with
  | smoothRandom => exact absurd h hw
  | _ => rfl

section
variable {p : Params} {g q : Nat} {c : Channel} {rng : Word}

theorem enabledStep_srFilt_le (h : c.render.srFilt.toNat ≤ 0xFF00) :
    (enabledStep p g q c rng).chan.render.srFilt.toNat ≤ 0xFF00 := by
  by_cases hidle : (enabledStep p g q c rng).chan.render.wstate = .idle
  · rw [(enabledStep_smooth_of_idle hidle).2]
    exact h
  · by_cases hw : c.par.wave = .smoothRandom
    · rw [(enabledStep_smooth_of_live hw hidle).2.1]
      exact toNat_smoothFilt_le p h _
    · rw [enabledStep_srFilt, stepRendered_of_live hidle, renderShape_srFilt (by rwa [beforeRender_par]), beforeRender_srFilt]
      exact h

theorem enabledStep_of_idle (h : (enabledStep p g q c rng).chan.render.wstate = .idle) :
    (enabledStep p g q c rng).chan.render.sample = 0 ∧ (enabledStep p g q c rng).chan.render.dir = false := by
  rw [enabledStep_sample, enabledStep_dir, stepRendered_of_idle h]
  exact ⟨rfl, rfl⟩

/-- The cursor wraps inside the sequence (42_tick.md R210). -/
theorem enabledStep_cursor_lt (hpos : 0 < c.par.seqLen) (hlen : c.par.seqLen ≤ 64) (h : c.cursor.toNat < c.par.seqLen) :
    (enabledStep p g q c rng).chan.cursor.toNat < c.par.seqLen := by
  rw [enabledStep_cursor]
  split
  · rw [toNat_advanceCursor hlen]
    split <;> omega
  · exact h

theorem disabledStep_inv {ch : Chan} {paused : Bool} (h : c.Inv p ch paused) : (disabledStep c).Inv p ch paused :=
  { h with
    srFilt := by simp [RenderState.reset]
    gate := iff_of_false nofun (not_not_intro rfl)
    idleSample := fun _ => ⟨rfl, rfl⟩
    digital := fun hkind => by
      change c.kind = .digital at hkind
      simp [offLevel, hkind] }

theorem enabledStep_inv {ch : Chan} {paused : Bool} (h : c.Inv p ch paused) : (enabledStep p g q c rng).chan.Inv p ch paused := by
  have hcursor := fun hen => enabledStep_cursor_lt (p := p) (g := g) (q := q) (rng := rng)
    (Nat.add_pos_left h.par.steps_pos _) h.par.len_le (h.cursor hen)
  have hfilt := enabledStep_srFilt_le (p := p) (g := g) (q := q) (rng := rng) h.srFilt
  have hgate := enabledStep_gateOut_iff (p := p) (g := g) (q := q) (c := c) (rng := rng)
  have hidle := enabledStep_of_idle (p := p) (g := g) (q := q) (c := c) (rng := rng)
  have hdigital := enabledStep_levelOut_of_digital p g q c rng
  obtain ⟨cursor, render, gateOut, levelOut, hframe⟩ := enabledStep_frame p g q c rng
  rw [hframe] at hcursor hfilt hgate hidle hdigital ⊢
  exact { h with cursor := hcursor, srFilt := hfilt, gate := hgate, idleSample := hidle, digital := hdigital }

theorem channelStep_inv {ch : Chan} {paused : Bool} (h : c.Inv p ch paused) (g q : Nat) (rng : Word) :
    (channelStep p g q c rng).chan.Inv p ch paused := by
  obtain ⟨-, hstep⟩ | ⟨-, -, hstep⟩ | ⟨-, -, hstep⟩ := channelStep_cases p g q c rng
  · rw [hstep]
    exact disabledStep_inv h
  · rw [hstep]
    exact h
  · rw [hstep]
    exact enabledStep_inv h

theorem channelStep_rng_ne_zero (hp : p.RngStepLegal) (h : rng ≠ 0) (g q : Nat) (c : Channel) :
    (channelStep p g q c rng).rng ≠ 0 := by
  obtain ⟨-, hstep⟩ | ⟨-, -, hstep⟩ | ⟨-, -, hstep⟩ := channelStep_cases p g q c rng
  · rwa [hstep]
  · rwa [hstep]
  · rw [hstep]
    dsimp only
    rw [enabledStep_rng_eq_iterate]
    exact iterate_rngStep_ne_zero hp h _

end

/-! ### A command -/

section
variable {p : Params} {s t : State}

/-- The invariant speaks of PPQN, RNG, PAUSED and the channels alone. -/
theorem State.Inv.congr (h : s.Inv p) (hppqn : t.ppqn = s.ppqn) (hrng : t.rng = s.rng) (hpaused : t.paused = s.paused)
    (hchans : t.chans = s.chans) : t.Inv p where
  ppqn_pos := hppqn ▸ h.ppqn_pos
  ppqn_le := hppqn ▸ h.ppqn_le
  rng := hrng ▸ h.rng
  chan ch := by
    rw [State.chan, hchans, hpaused]
    exact h.chan ch

theorem afterChan_inv (h : s.Inv p) {ch : Chan} {c : Channel} (hc : c.Inv p ch s.paused) : (s.afterChan ch c).Inv p :=
  { h with
    chan := fun ch' => by
      by_cases hch : ch' = ch
      · subst hch
        rw [State.chan_afterChan_same]
        exact hc
      · rw [State.chan_afterChan_ne _ _ hch]
        exact h.chan ch' }

theorem tickRng_ne_zero (hp : p.RngStepLegal) (h : s.rng ≠ 0) (n : Nat) : tickRng p s n ≠ 0 := by
  induction n with
  | zero => exact h
  | succ n ih => exact channelStep_rng_ne_zero hp ih _ _ _

theorem afterTick_inv (hp : p.Legal) (h : s.Inv p) : (afterTick p s).Inv p :=
  { h with
    rng := tickRng_ne_zero hp.rng h.rng 4
    chan := fun ch => by
      rw [chan_afterTick]
      exact channelStep_inv (h.chan ch) .. }

theorem extPulseWith_eq (p : Params) (s : State) :
    extPulseWith p s = .next { s with rdata := 0, chans := s.chans.map (extPulseChannel p) } := rfl

theorem extPulseChannel_inv {ch : Chan} {paused : Bool} {c : Channel} (h : c.Inv p ch paused) :
    (extPulseChannel p c).Inv p ch paused := by
  unfold extPulseChannel
  split
  · exact { h with }
  · exact h

theorem pauseChannel_inv {ch : Chan} {paused : Bool} {c : Channel} (h : c.Inv p ch paused) : (pauseChannel c).Inv p ch true :=
  { h with par := { h.par with }, pausedOff := fun _ => rfl }

theorem resumeChannel_inv {ch : Chan} {paused : Bool} {c : Channel} (h : c.Inv p ch paused) : (resumeChannel c).Inv p ch false :=
  { h with par := { h.par with }, pausedOff := nofun }

theorem chan_of_map {f : Channel → Channel} (hchans : t.chans = s.chans.map f) (ch : Chan) : t.chan ch = f (s.chan ch) := by
  rw [State.chan, hchans]
  exact Channels.get_map ..

/-- A state whose channels are those of `s` under one action, with the invariant of the channels given. -/
theorem map_inv (h : s.Inv p) {f : Channel → Channel} (hchans : t.chans = s.chans.map f) (hppqn : t.ppqn = s.ppqn)
    (hrng : t.rng = s.rng) (hf : ∀ ch c, c.Inv p ch s.paused → (f c).Inv p ch t.paused) : t.Inv p where
  ppqn_pos := hppqn ▸ h.ppqn_pos
  ppqn_le := hppqn ▸ h.ppqn_le
  rng := hrng ▸ h.rng
  chan ch := by
    rw [chan_of_map hchans]
    exact hf ch _ (h.chan ch)

theorem pause_inv (h : s.Inv p) (ht : exec .pause s = .next t) : t.Inv p := by
  cases ht
  split
  · exact h.congr rfl rfl rfl rfl
  · exact map_inv h rfl rfl rfl fun _ _ => pauseChannel_inv

theorem resume_inv (h : s.Inv p) (ht : exec .resume s = .next t) : t.Inv p := by
  cases ht
  split
  · exact map_inv h rfl rfl rfl fun _ _ => resumeChannel_inv
  · exact h.congr rfl rfl rfl rfl

theorem readOrIllegal_inv (h : s.Inv p) {v : Option Half} (ht : readOrIllegal v s = .next t) : t.Inv p := by
  cases v <;> cases ht <;> exact h.congr rfl rfl rfl rfl

/-- Every command of every legal build keeps the invariant. -/
theorem execWith_inv (hp : p.Legal) (h : s.Inv p) {i : Instr} (ht : execWith p i s = .next t) : t.Inv p := by
  cases hi : i.setterChan with
  | some ch =>
    rw [execWith_setter hi] at ht
    cases ht
    exact afterChan_inv h (chanAfter_inv hp (h.chan ch) i)
  | none =>
    cases i with
    | tick =>
      cases (tickWith_eq p s).symm.trans ht
      exact afterTick_inv hp h
    | extPulse =>
      cases (extPulseWith_eq p s).symm.trans ht
      exact map_inv h rfl rfl rfl fun _ _ => extPulseChannel_inv
    | pause => exact pause_inv h ht
    | resume => exact resume_inv h ht
    | setPpqn d =>
      cases ht
      exact { h with ppqn_pos := le_toNat_clampReg _ (by decide), ppqn_le := toNat_clampReg_le _ (by decide) }
    | seed d =>
      cases ht
      refine { h with rng := fun hzero => ?_ }
      have hseed := (toNat_seedWord d).symm.trans (congrArg BitVec.toNat hzero)
      split at hseed
      · cases hseed
      case isFalse hd => exact hd hseed
    | nop | clrGtick | rdOut | rdParam => cases ht; exact h.congr rfl rfl rfl rfl
    | rdState | rdRhythm | rdGlobal => exact readOrIllegal_inv h ht
    | _ => cases hi

/-- Every command step of every legal build keeps the invariant: a reset, a command, ILLEGAL, or nothing. -/
theorem stepWith_inv (hp : p.Legal) (h : s.Inv p) (ht : stepWith p s = .next t) : t.Inv p := by
  have hconsume : s.consume.Inv p := h.congr rfl rfl rfl rfl
  obtain ⟨-, rfl⟩ | ⟨-, -, i, -, hrun⟩ | ⟨-, -, -, rfl⟩ | ⟨-, -, rfl⟩ := stepBy_cases ht
  · exact applyReset_inv hp hconsume
  · exact execWith_inv hp hconsume hrun
  · exact hconsume.congr rfl rfl rfl rfl
  · exact hconsume

end

/-- Settles O12: `stepWith_inv`, the machine of `step` being the build with the default parameters. -/
theorem everyStepKeepsTheMachineInvariant : Obligations.EveryStepKeepsTheMachineInvariant :=
  ⟨fun s _ h ht => stepWith_inv defaultParamsAreLegal h ((stepWith_default s).trans ht), fun _ _ _ => stepWith_inv⟩

/-- Settles O13: the four are commands of the build. -/
theorem parameterCommandsKeepInvariantForAnyLegalParams : Obligations.ParameterCommandsKeepInvariantForAnyLegalParams := by
  intro p s t hp h ht
  obtain ht | ht | ⟨ch, d, ht⟩ | ⟨ch, d, ht⟩ := ht
  · exact execWith_inv (i := .tick) hp h ht
  · exact execWith_inv (i := .extPulse) hp h ht
  · exact execWith_inv (i := .setDiv ch d) hp h ht
  · exact execWith_inv (i := .setSwingAmt ch d) hp h ht

end Sys2Proof.Machine
end

section
/-! PROOFS. Restoring a saved channel (spec/70_reset_and_hazards.md R378): the setters of the sequence, in its order, each
write back the value that RD_PARAM read. -/

namespace Sys2Proof.Machine

/-! ### Runs of setters on one channel -/

/-- A run of setters on one channel leaves that channel as the setters one after another leave it. -/
theorem execAll_setters {ch : Chan} {is : List Instr} (hne : is ≠ []) (h : ∀ i ∈ is, i.setterChan = some ch) (s : State) :
    execAll is s = .next (s.afterChan ch (is.foldl (fun c i => chanAfter defaultParams s.paused i c) (s.chan ch))) := by
  induction is generalizing s with
  | nil => exact absurd rfl hne
  | cons i is ih =>
    obtain ⟨hi, his⟩ := List.forall_mem_cons.mp h
    rw [execAll, exec_setter hi]
    cases is with
    | nil => rfl
    | cons j js =>
      refine (ih (List.cons_ne_nil j js) his _).trans ?_
      rw [afterChan_afterChan, State.chan_afterChan_same]
      rfl

/-- Outside a pause the parameters after a run of setters are those the setters compute one after another. -/
theorem foldl_chanAfter_par (p : Params) (is : List Instr) (c : Channel) :
    (is.foldl (fun c i => chanAfter p false i c) c).par = is.foldl (fun r i => parAfter p i r) c.par := by
  induction is generalizing c with
  | nil => rfl
  | cons i is ih =>
    rw [List.foldl_cons, List.foldl_cons, ih, chanAfter_par, Bool.and_false]
    rfl

theorem foldl_chanAfter_render (p : Params) (paused : Bool) (is : List Instr) (c : Channel) :
    (is.foldl (fun c i => chanAfter p paused i c) c).render = c.render := by
  induction is generalizing c with
  | nil => rfl
  | cons i is ih =>
    obtain ⟨_, _, _, _, _, _, hframe⟩ := chanAfter_frame p paused i c
    rw [List.foldl_cons, ih, hframe]

/-! ### What a saved value is clamped to -/

/-- A saved register reads back zero-extended, as an operand that is not negative. -/
theorem sext16_setWidth {w : Nat} (hw : w < 16) (x : BitVec w) : sext16 (x.setWidth 16) = (x.toNat : Int) := by
  have hx : x.toNat < 2 ^ 15 := x.isLt.trans_le (Nat.pow_le_pow_right (by decide) (by omega))
  rw [sext16, BitVec.toInt_eq_toNat_of_lt] <;> rw [BitVec.toNat_setWidth, Nat.mod_eq_of_lt (by omega)]
  omega

/-- A saved value that lies in the range is stored as it was. -/
theorem clampReg_saved {w : Nat} {lo hi : Int} {x : BitVec w} (hw : w < 16) (hlo : lo ≤ x.toNat) (hhi : x.toNat ≤ hi) :
    clampReg w (sext16 (x.setWidth 16)) lo hi = x := by
  rw [clampReg, clamp, sext16_setWidth hw, min_eq_right hhi, max_eq_right hlo]
  exact (BitVec.ofInt_natCast ..).trans (BitVec.ofNat_toNat .. |>.trans (BitVec.setWidth_eq x))

theorem flag_saved (b : Bool) : decide (0 < (flagWord b).toInt) = b := by
  cases b <;> rfl

theorem shapeOfCode_saved (w : Shape) : shapeOfCode (clamp (sext16 (BitVec.ofNat 16 w.code)) 0 9).toNat = w := by
  cases w <;> rfl

/-! ### The restore sequence -/

/-- The setters of the sequence up to the one that turns EUC_EN on again (70_reset_and_hazards.md R378). -/
def restoreFirst (ch : Chan) (r : ParamRegs) : List Instr := (restoreSequence ch r).take 15

/-- The last three setters of the sequence: SET_EUC_EN, SET_WAVE, SET_OUT_EN. -/
def restoreLast (ch : Chan) (r : ParamRegs) : List Instr := (restoreSequence ch r).drop 15

theorem restoreFirst_append_restoreLast (ch : Chan) (r : ParamRegs) :
    restoreFirst ch r ++ restoreLast ch r = restoreSequence ch r :=
  List.take_append_drop 15 _

/-- Before EUC_EN is turned on again every register but it, WAVE and OUT_EN is restored: DIV while EXT is 0, so that it is not
clamped to `IDX_X1`, and the Euclidean ones after EUC_STEPS, which bounds them. -/
theorem foldl_parAfter_restoreFirst {p : Params} {r : ParamRegs} (h : r.Legal p) (ch : Chan) (r' : ParamRegs) :
    (restoreFirst ch r).foldl (fun r i => parAfter p i r) r' = { r with eucEn := false, wave := r'.wave, outEn := r'.outEn } := by
  have hoff : decide (0 < (0 : Half).toInt) = false := rfl
  obtain ⟨hdiv, hdutyPos, hdutyLe, hphase, hlevel, hoffset, hswing, heveryPos, heveryLe, hprob, hstepsPos, hstepsLe, htrigPos,
    htrigLe, hrot, hlen⟩ := h
  simp (disch := omega) only [restoreFirst, restoreSequence, List.cons_append, List.nil_append, List.take_succ_cons, List.take_zero,
    List.foldl_cons, List.foldl_nil, parAfter, stepsPar, readParam, hoff, flag_saved, Bool.false_eq_true, if_false, clampReg_saved]

/-- They restore the flags and the shape. -/
theorem foldl_parAfter_restoreLast (p : Params) (r : ParamRegs) (ch : Chan) (wave : Shape) (outEn : Bool) :
    (restoreLast ch r).foldl (fun r i => parAfter p i r) { r with eucEn := false, wave := wave, outEn := outEn } = r := by
  simp only [restoreLast, restoreSequence, List.cons_append, List.nil_append, List.drop_succ_cons, List.drop_zero, List.foldl_cons,
    List.foldl_nil, parAfter, readParam, flag_saved, shapeOfCode_saved]

/-- Setters that keep the length of the sequence keep the pattern and the cursor in step with the parameters. -/
theorem foldl_chanAfter_inSync {p : Params} {is : List Instr} (hlen : ∀ i ∈ is, ∀ r, (parAfter p i r).seqLen = r.seqLen)
    {c : Channel} (hpos : 0 < c.par.seqLen) (h : EucInSync c) : EucInSync (is.foldl (fun c i => chanAfter p false i c) c) := by
  induction is generalizing c with
  | nil => exact h
  | cons i is ih =>
    obtain ⟨hi, his⟩ := List.forall_mem_cons.mp hlen
    have hpar : (chanAfter p false i c).par = parAfter p i c.par := by
      rw [chanAfter_par, Bool.and_false]; rfl
    refine ih his ?_ (chanAfter_inSync h ?_)
    · rwa [hpar, hi]
    · rwa [hi]

/-- None of them writes EUC_STEPS or EUC_PAD. -/
theorem seqLen_parAfter_restoreLast (p : Params) (ch : Chan) (r r' : ParamRegs) :
    ∀ i ∈ restoreLast ch r, (parAfter p i r').seqLen = r'.seqLen := by
  simp [restoreLast, restoreSequence, parAfter, ParamRegs.seqLen]

/-- Settles O24: the first part of the sequence ends with EUC_EN = 0, the last part turns it on and keeps the length. -/
theorem restoreSequenceRoundTrips : Obligations.RestoreSequenceRoundTrips := by
  intro ch r s hlegal hpaused
  have hne : restoreSequence ch r ≠ [] := List.cons_ne_nil _ _
  have hsetters : ∀ i ∈ restoreSequence ch r, i.setterChan = some ch := by
    simp [restoreSequence, Instr.setterChan]
  have hrun := execAll_setters hne hsetters s
  rw [hpaused] at hrun
  have hfirst := foldl_parAfter_restoreFirst hlegal ch (s.chan ch).par
  have hpar : ((restoreSequence ch r).foldl (fun c i => chanAfter defaultParams false i c) (s.chan ch)).par = r := by
    rw [foldl_chanAfter_par, ← restoreFirst_append_restoreLast, List.foldl_append, hfirst, foldl_parAfter_restoreLast]
  have hsync : EucInSync ((restoreSequence ch r).foldl (fun c i => chanAfter defaultParams false i c) (s.chan ch)) := by
    rw [← foldl_chanAfter_par] at hfirst
    rw [← restoreFirst_append_restoreLast, List.foldl_append]
    refine foldl_chanAfter_inSync (fun i hi r' => seqLen_parAfter_restoreLast _ ch r r' i hi) ?_ fun hen => ?_ <;> rw [hfirst] at *
    · exact Nat.add_pos_left hlegal.steps_pos _
    · cases hen
  refine ⟨_, hrun, ?_⟩
  rw [State.chan_afterChan_same]
  refine ⟨hpar, fun hen => ?_, foldl_chanAfter_render .., fun c hc => State.chan_afterChan_ne _ _ hc, rfl⟩
  have hrestored := hsync (hpar.symm ▸ hen)
  rwa [hpar] at hrestored

end Sys2Proof.Machine
end

section
/-! PROOFS. NOP, PAUSE and RESUME (spec/44_control.md R290 to R292). -/

namespace Sys2Proof.Machine

/-- Settles O25: NOP ends as a command that is not a read does, and its form has one word. -/
theorem nopOnlyClearsRdata : Obligations.NopOnlyClearsRdata :=
  ⟨fun _ => rfl, commandWord_of_formG0 (o := 0x00) fun _ _ _ => rfl, legalWords_of_formG0 (j := .nop) fun _ _ _ => rfl⟩

section
variable {s : State}

theorem exec_pause_of_paused (h : s.paused = true) : exec .pause s = .next { s with rdata := 0 } := by
  rw [exec, execPause, if_pos h]
  rfl

theorem exec_pause_of_not_paused (h : s.paused = false) :
    exec .pause s = .next { s with rdata := 0, paused := true, chans := s.chans.map pauseChannel } := by
  rw [exec, execPause, if_neg (by simp [h])]
  rfl

theorem exec_resume_of_paused (h : s.paused = true) :
    exec .resume s = .next { s with rdata := 0, paused := false, chans := s.chans.map resumeChannel } := by
  rw [exec, execResume, if_pos h]
  rfl

theorem exec_resume_of_not_paused (h : s.paused = false) : exec .resume s = .next { s with rdata := 0 } := by
  rw [exec, execResume, if_neg (by simp [h])]
  rfl

end

/-- Settles O26: outside a pause PAUSE acts on each channel as `pauseChannel`, during one RESUME as `resumeChannel`. -/
theorem pauseAndResumeMoveTheEnables : Obligations.PauseAndResumeMoveTheEnables := by
  refine ⟨commandWord_of_formG0 (o := 0x03) fun _ _ _ => rfl, legalWords_of_formG0 (j := .pause) fun _ _ _ => rfl,
    commandWord_of_formG0 (o := 0x04) fun _ _ _ => rfl, legalWords_of_formG0 (j := .resume) fun _ _ _ => rfl, fun s => ?_⟩
  cases h : s.paused with
  | false =>
    exact ⟨⟨_, exec_pause_of_not_paused h, nofun, fun _ => ⟨rfl, fun ch => Channels.get_map pauseChannel s.chans ch⟩⟩,
      ⟨_, exec_resume_of_not_paused h, fun _ => by rw [← h], nofun⟩⟩
  | true =>
    exact ⟨⟨_, exec_pause_of_paused h, fun _ => by rw [← h], nofun⟩,
      ⟨_, exec_resume_of_paused h, nofun, fun _ => ⟨rfl, fun ch => Channels.get_map resumeChannel s.chans ch⟩⟩⟩

end Sys2Proof.Machine
end

section
/-! PROOFS. What all reads share (spec/44_control.md R300, R304): the value read, that it does not depend on `rdata`, and that it
exists exactly for the well-formed reads. -/

namespace Sys2Proof.Machine

/-- The sixteen words of PARAM (20_memory.md R71, 10_state.md R39). -/
def paramSpace (r : ParamRegs) : List Nat :=
  [r.div.toNat, r.duty.toNat, r.phase.toNat, r.level.toNat, r.offset.toNat, r.swingAmt.toNat, r.swingEvery.toNat, r.prob.toNat,
    r.eucEn.toNat, r.eucSteps.toNat, r.eucTrig.toNat, r.eucRot.toNat, r.eucPad.toNat, r.wave.code, r.outEn.toNat, r.ext.toNat]

/-- A read of PARAM answers the space's word: every register fits, and all sixteen addresses have one. -/
theorem toNat_readParam (r : ParamRegs) : ∀ a, a < 16 → (paramSpace r)[a]? = some (readParam r a).toNat
  | 0, _ | 1, _ | 2, _ | 3, _ | 4, _ | 5, _ | 6, _ | 7, _ | 9, _ | 10, _ | 11, _ | 12, _ =>
    congrArg some (BitVec.toNat_setWidth_of_le (by decide)).symm
  | 8, _ | 14, _ | 15, _ => congrArg some (toNat_flagWord _).symm
  | 13, _ => by
    have hcode : r.wave.code ≤ 9 := by cases r.wave <;> decide
    exact congrArg some ((BitVec.toNat_ofNat ..).trans (Nat.mod_eq_of_lt (by omega))).symm
  | _ + 16, h => absurd h (by omega)

/-- Settles O31: RD_PARAM's form admits every address, and each has its register. -/
theorem rdParamReadsTheRegister : Obligations.RdParamReadsTheRegister := by
  refine ⟨fun w hopc => ?_, fun ch a s =>
    ⟨commandWord_of_formCA (last := 15) (fun _ _ _ => rfl) ch (Nat.le_of_lt_succ a.isLt), _, rfl, toNat_readParam _ _ a.isLt⟩⟩
  refine (legalWords_of_formCA (o := 0x21) (f := .rdParam) (fun _ _ _ => rfl) w hopc).trans ?_
  exact exists_congr fun ch => exists_congr fun a => and_iff_right (Nat.le_of_lt_succ a.isLt)

/-- The value a read gives, when its address lies in its space. -/
def readValue (i : Instr) (s : State) : Option Half :=
  match i with
  | .rdOut ch => some (outWord (s.chan ch))
  | .rdParam ch a => some (readParam (s.chan ch).par a.toNat)
  | .rdState ch a => readState (s.chan ch) a.toNat
  | .rdRhythm ch a => readRhythm (s.chan ch) a.toNat
  | .rdGlobal a => readGlobal s a.toNat
  | _ => none

theorem exec_of_isRead {i : Instr} (h : i.isRead = true) (s : State) : exec i s = readOrIllegal (readValue i s) s := by
  cases i with
  | rdOut | rdParam | rdState | rdRhythm | rdGlobal => rfl
  | _ => cases h

/-- No space holds `rdata`. -/
theorem readValue_rdata (i : Instr) (s : State) (v : Half) : readValue i { s with rdata := v } = readValue i s := by
  cases i <;> rfl

/-- A read of a space gives a value exactly at the addresses the space has. -/
theorem isSome_of_space {v : Option Half} {space : List Nat} {a : Nat} (hv : v.map BitVec.toNat = space[a]?) :
    v.isSome = true ↔ a < space.length := by
  rw [← Option.isSome_map, hv, isSome_getElem?]

theorem isSome_readValue_iff {i : Instr} (h : i.isRead = true) (s : State) : (readValue i s).isSome = true ↔ i.wf = true := by
  cases i with
  | rdOut | rdParam => exact iff_of_true rfl rfl
  | rdState ch a => exact (isSome_of_space (map_toNat_readState _ _)).trans (Nat.lt_succ_iff.trans decide_eq_true_iff.symm)
  | rdGlobal a => exact (isSome_of_space (map_toNat_readGlobal _ _)).trans (Nat.lt_succ_iff.trans decide_eq_true_iff.symm)
  | rdRhythm ch a =>
    have hcases : (readRhythm (s.chan ch) a.toNat).isSome = true ↔ a.toNat ≤ 3 := by
      unfold readRhythm
      split <;> simp_all
    exact hcases.trans decide_eq_true_iff.symm
  | _ => cases h

/-- Everything a read can do: give its value when it is well formed, and raise ILLEGAL otherwise (notes/assumptions/8). -/
theorem exec_read_cases {i : Instr} (h : i.isRead = true) (s : State) :
    (i.wf = true ∧ ∃ v, ∀ u, exec i { s with rdata := u } = .next { s with rdata := v }) ∨
    (i.wf = false ∧ exec i s = .next (raiseIllegal s)) := by
  have hiff := isSome_readValue_iff h s
  cases hv : readValue i s with
  | some v =>
    refine .inl ⟨hiff.mp (by rw [hv]; rfl), v, fun u => ?_⟩
    rw [exec_of_isRead h, readValue_rdata, hv]
    rfl
  | none =>
    refine .inr ⟨Bool.eq_false_of_not_eq_true (mt hiff.mpr (by rw [hv]; nofun)), ?_⟩
    rw [exec_of_isRead h, hv]
    rfl

/-- Settles O35: a well-formed read answers the same value whatever `rdata` holds. -/
theorem readsHaveNoSideEffects : Obligations.ReadsHaveNoSideEffects := by
  intro i s t hread ht
  obtain ⟨hwf, v, hv⟩ | ⟨hwf, hill⟩ := exec_read_cases hread s
  · cases (hv s.rdata).symm.trans ht
    exact ⟨fun _ => ⟨rfl, hv v⟩, fun hno => absurd (hwf.symm.trans hno) nofun⟩
  · cases hill.symm.trans ht
    exact ⟨fun hyes => absurd (hwf.symm.trans hyes) nofun, fun _ => rfl⟩

end Sys2Proof.Machine
end

section
/-! PROOFS. Who writes the global registers, the outputs and STATUS (spec/10_state.md R33 to R37, 42_tick.md R216, 60_exceptions.md
R338). -/

namespace Sys2Proof.Machine

/-! ### The global registers -/

/-- From `s` to `t` the command `i` wrote no global register but its own (10_state.md R33 to R37); where a command writes none of
them each field holds by definition. -/
structure WritesOwnGlobals (i : Instr) (s t : State) : Prop where
  gtick  : i ≠ .tick ∧ i ≠ .clrGtick → t.gtick = s.gtick := by exact fun _ => rfl
  ppqn   : (∀ d, i ≠ .setPpqn d) → t.ppqn = s.ppqn := by exact fun _ => rfl
  rng    : (i ≠ .tick ∧ ∀ d, i ≠ .seed d) → t.rng = s.rng := by exact fun _ => rfl
  paused : i ≠ .pause ∧ i ≠ .resume → t.paused = s.paused := by exact fun _ => rfl
  zper   : i ≠ .tick → t.status.zper = s.status.zper := by exact fun _ => rfl
  ill    : i.wf = true → t.status.ill = s.status.ill := by exact fun _ => rfl
  rdata  : i.isRead = false → t.rdata = 0 := by exact fun _ => rfl

/-- Setters and reads write none of these registers but `rdata`, each other command its own. -/
theorem exec_writesOwnGlobals {i : Instr} {s t : State} (ht : exec i s = .next t) : WritesOwnGlobals i s t := by
  cases hset : i.setterChan with
  | some ch =>
    cases (exec_setter hset s).symm.trans ht
    exact {}
  | none =>
    by_cases hread : i.isRead = true
    · have hrdata (hno : i.isRead = false) : t.rdata = 0 := absurd (hread.symm.trans hno) nofun
      obtain ⟨-, v, hv⟩ | ⟨hwf, hill⟩ := exec_read_cases hread s
      · cases (hv s.rdata).symm.trans ht
        exact { rdata := hrdata }
      · cases hill.symm.trans ht
        exact { ill := fun hyes => absurd (hwf.symm.trans hyes) nofun }
    · cases i with
      | tick =>
        cases (exec_tick s).symm.trans ht
        exact { gtick := fun h => absurd rfl h.1, rng := fun h => absurd rfl h.1, zper := fun h => absurd rfl h }
      | extPulse =>
        cases (exec_extPulse s).symm.trans ht
        exact {}
      | nop => cases ht; exact {}
      | pause =>
        cases hp : s.paused with
        | false => cases (exec_pause_of_not_paused hp).symm.trans ht; exact { paused := fun h => absurd rfl h.1 }
        | true => cases (exec_pause_of_paused hp).symm.trans ht; exact {}
      | resume =>
        cases hp : s.paused with
        | false => cases (exec_resume_of_not_paused hp).symm.trans ht; exact {}
        | true => cases (exec_resume_of_paused hp).symm.trans ht; exact { paused := fun h => absurd rfl h.2 }
      | setPpqn d => cases ht; exact { ppqn := fun h => absurd rfl (h d) }
      | clrGtick => cases ht; exact { gtick := fun h => absurd rfl h.2 }
      | seed d => cases ht; exact { rng := fun h => absurd rfl (h.2 d) }
      | rdOut | rdParam | rdState | rdRhythm | rdGlobal => exact absurd rfl hread
      | _ => cases hset

/-- Settles O29: the fields of `WritesOwnGlobals` are the statement's clauses. -/
theorem globalRegistersHaveOnlyTheirWriters : Obligations.GlobalRegistersHaveOnlyTheirWriters := by
  intro i s t ht
  obtain ⟨hgtick, hppqn, hrng, hpaused, hzper, hill, hrdata⟩ := exec_writesOwnGlobals ht
  exact ⟨hgtick, hppqn, hrng, hpaused, hzper, hill, hrdata⟩

/-! ### STATUS (10_state.md R36) -/

/-- A TICK may set ZPER and no command clears a bit; what a step runs is well formed, because a word decoded to it. -/
theorem exec_keeps_status {i : Instr} {s t : State} (hwf : i.wf = true) (ht : exec i s = .next t) :
    (s.status.ill = true → t.status.ill = true) ∧ (s.status.zper = true → t.status.zper = true) := by
  have hown := exec_writesOwnGlobals ht
  refine ⟨fun h => (hown.ill hwf).trans h, fun h => ?_⟩
  by_cases htick : i = .tick
  · subst htick
    cases (exec_tick s).symm.trans ht
    exact (zper_afterTick_iff ..).mpr (.inl h)
  · exact (hown.zper htick).trans h

/-- Settles O53: a command keeps the bits by `exec_keeps_status`, ILLEGAL sets one, and no command leaves them alone. -/
theorem statusBitsAreSticky : Obligations.StatusBitsAreSticky := by
  intro s t ht hrst
  obtain ⟨hreset, -⟩ | ⟨-, -, i, hdecode, hrun⟩ | ⟨-, -, -, rfl⟩ | ⟨-, -, rfl⟩ := step_cases ht
  · exact absurd (hreset.symm.trans hrst) nofun
  · exact exec_keeps_status (s := s.consume) (wf_of_decode hdecode) hrun
  · exact ⟨fun _ => rfl, id⟩
  · exact ⟨id, id⟩

/-! ### The outputs (42_tick.md R216, 90_conflicts.md C10) -/

/-- The channel shows the outputs of `c` and has its render state. -/
def SameOutputs (c c' : Channel) : Prop := c'.gateOut = c.gateOut ∧ c'.levelOut = c.levelOut ∧ c'.render = c.render

theorem sameOutputs_chanAfter (p : Params) (paused : Bool) (i : Instr) (c : Channel) : SameOutputs c (chanAfter p paused i c) := by
  obtain ⟨_, _, _, _, _, _, hframe⟩ := chanAfter_frame p paused i c
  rw [hframe]
  exact ⟨rfl, rfl, rfl⟩

theorem sameOutputs_extPulseChannel (p : Params) (c : Channel) : SameOutputs c (extPulseChannel p c) := by
  unfold extPulseChannel
  split <;> exact ⟨rfl, rfl, rfl⟩

theorem sameOutputs_of_map {s t : State} {f : Channel → Channel} (hchans : t.chans = s.chans.map f)
    (hf : ∀ c, SameOutputs c (f c)) (ch : Chan) : SameOutputs (s.chan ch) (t.chan ch) := by
  rw [chan_of_map hchans]
  exact hf _

/-- Setters keep the outputs of their channel, EXT_PULSE, PAUSE and RESUME those of each, and the rest write no channel. -/
theorem exec_sameOutputs {i : Instr} {s t : State} (hi : i ≠ .tick) (ht : exec i s = .next t) (ch : Chan) :
    SameOutputs (s.chan ch) (t.chan ch) := by
  have hkept : SameOutputs (s.chan ch) (s.chan ch) := ⟨rfl, rfl, rfl⟩
  cases hset : i.setterChan with
  | some ch' =>
    cases (exec_setter hset s).symm.trans ht
    by_cases hch : ch = ch'
    · subst hch
      rw [State.chan_afterChan_same]
      exact sameOutputs_chanAfter ..
    · rwa [State.chan_afterChan_ne _ _ hch]
  | none =>
    by_cases hread : i.isRead = true
    · obtain ⟨-, v, hv⟩ | ⟨-, hill⟩ := exec_read_cases hread s
      · cases (hv s.rdata).symm.trans ht; exact hkept
      · cases hill.symm.trans ht; exact hkept
    · cases i with
      | tick => exact absurd rfl hi
      | extPulse =>
        cases (exec_extPulse s).symm.trans ht
        exact sameOutputs_of_map rfl (sameOutputs_extPulseChannel _) ch
      | pause =>
        cases hp : s.paused with
        | false =>
          cases (exec_pause_of_not_paused hp).symm.trans ht
          exact sameOutputs_of_map (f := pauseChannel) rfl (fun _ => ⟨rfl, rfl, rfl⟩) ch
        | true => cases (exec_pause_of_paused hp).symm.trans ht; exact hkept
      | resume =>
        cases hp : s.paused with
        | false => cases (exec_resume_of_not_paused hp).symm.trans ht; exact hkept
        | true =>
          cases (exec_resume_of_paused hp).symm.trans ht
          exact sameOutputs_of_map (f := resumeChannel) rfl (fun _ => ⟨rfl, rfl, rfl⟩) ch
      | nop | setPpqn | clrGtick | seed => cases ht; exact hkept
      | rdOut | rdParam | rdState | rdRhythm | rdGlobal => exact absurd rfl hread
      | _ => cases hset

/-- Settles O52: the ports show the latches, which `exec_sameOutputs` says are kept. -/
theorem onlyTickMovesTheOutputs : Obligations.OnlyTickMovesTheOutputs := fun _ _ _ => exec_sameOutputs

end Sys2Proof.Machine
end

section
/-! PROOFS. A channel step that draws nothing does not depend on the generator (spec/42_tick.md R219, R228). -/

namespace Sys2Proof.Machine

section
variable {p : Params} {c : Channel}

/-- In Euclidean mode the fire is read from RHYTHM, and no shape but SAMPLE_HOLD draws at a start. -/
theorem startStep_chan_of_no_draw (heuc : c.par.eucEn = true) (hw : c.par.wave ≠ .sampleHold) (starts : Bool) (rng rng' : Word) :
    (startStep p starts c rng).chan = (startStep p starts c rng').chan := by
  have hfires : fires p c rng = fires p c rng' := by simp [fires, heuc]
  have hafter : (afterFire p c rng).chan = (afterFire p c rng').chan := by simp [afterFire, heuc]
  cases starts with
  | false => rfl
  | true =>
    simp only [startStep, startAction, if_true, hfires]
    split
    · obtain ⟨hold, hchan, hother, -⟩ := fireStart_spec p (afterFire p c rng)
      obtain ⟨hold', hchan', hother', -⟩ := fireStart_spec p (afterFire p c rng')
      rw [hchan, hchan', (hother (by rwa [afterFire_par])).1, (hother' (by rwa [afterFire_par])).1, hafter]
    · simp only [silentStart, hafter]

/-- No shape but RANDOM and SMOOTH_RANDOM draws when it is rendered. -/
theorem render_of_no_draw (hrandom : c.par.wave ≠ .random) (hsmooth : c.par.wave ≠ .smoothRandom) (e period d : Nat)
    (rng rng' : Word) :
    render p c e period d rng = { render p c e period d rng' with rng := rng } := by
  cases hstate : c.render.wstate with
  | idle => rw [render_idle _ _ _ _ _ _ hstate, render_idle _ _ _ _ _ _ hstate]; rfl
  | active | decaying =>
    have hlive : c.render.wstate ≠ .idle := by rw [hstate]; nofun
    rw [render_live _ _ _ _ _ _ hlive, render_live _ _ _ _ _ _ hlive, renderShape, renderShape]
    cases hw : c.par.wave with
    | random => exact absurd hw hrandom
    | smoothRandom => exact absurd hw hsmooth
    | _ => rfl

theorem enabledStep_chan_of_no_draw (heuc : c.par.eucEn = true) (hrandom : c.par.wave ≠ .random)
    (hsmooth : c.par.wave ≠ .smoothRandom) (hhold : c.par.wave ≠ .sampleHold) (g q : Nat) (rng rng' : Word) :
    (enabledStep p g q c rng).chan = (enabledStep p g q c rng').chan := by
  have hstart := startStep_chan_of_no_draw (p := p) (c := countTick c) heuc hhold (c.starts p g q) rng rng'
  have hpar : (startStep p (c.starts p g q) (countTick c) rng').chan.par = c.par := startStep_par ..
  simp only [enabledStep, renderLatch, hstart]
  rw [render_of_no_draw (by rwa [cutoffStep_par, hpar]) (by rwa [cutoffStep_par, hpar]) _ _ _ _
    (startStep p (c.starts p g q) (countTick c) rng').rng]
  rfl

theorem channelStep_chan_of_no_draw (heuc : c.par.eucEn = true) (hrandom : c.par.wave ≠ .random)
    (hsmooth : c.par.wave ≠ .smoothRandom) (hhold : c.par.wave ≠ .sampleHold) (g q : Nat) (rng rng' : Word) :
    (channelStep p g q c rng).chan = (channelStep p g q c rng').chan := by
  unfold channelStep
  split
  · split
    · rfl
    · exact enabledStep_chan_of_no_draw heuc hrandom hsmooth hhold g q rng rng'
  · rfl

end

/-- Settles O50: what the other channels, the flags and the pause could change is the generator alone, which this channel does not
read. -/
theorem euclideanChannelIgnoresTheOthers : Obligations.EuclideanChannelIgnoresTheOthers := by
  intro s s' ch hchan hgtick hppqn heuc hrandom hsmooth hhold
  refine ⟨_, _, exec_tick s, exec_tick s', ?_⟩
  rw [chan_afterTick, chan_afterTick, tickStep, tickStep, hchan, hgtick, hppqn]
  exact channelStep_chan_of_no_draw heuc hrandom hsmooth hhold ..

end Sys2Proof.Machine
end

section
/-! PROOFS. The loop of Bjorklund pairing ends (spec/40_euclid.md R122, R126): each round leaves fewer groups. -/

namespace Sys2Proof.Machine

/-- A round pairs at least one group away, so with as much fuel as there are groups one more iteration changes nothing. -/
theorem bjLoop_succ {fuel : Nat} {a b : List (List Bool)} (ha : 1 ≤ a.length) (hfuel : a.length + b.length ≤ fuel) :
    bjLoop (fuel + 1) a b = bjLoop fuel a b := by
  induction fuel generalizing a b with
  | zero => omega
  | succ fuel ih =>
    by_cases hb : 1 < b.length
    · rw [bjLoop_of_one_lt_length hb, bjLoop_of_one_lt_length hb]
      apply ih <;> simp only [List.length_zipWith, List.length_append, List.length_drop] <;> omega
    · rw [bjLoop_of_length_le_one (by omega), bjLoop_of_length_le_one (by omega)]

/-- Settles O56: there are `n` groups at the beginning. -/
theorem bjLoopEndsWithinItsBound : Obligations.BjLoopEndsWithinItsBound := by
  intro k n fuel hk hkn hfuel
  induction fuel, hfuel using Nat.le_induction with
  | base => rfl
  | succ fuel hle ih => rw [bjLoop_succ (by simpa using hk) (by simp; omega), ih]

end Sys2Proof.Machine
end
